-- ==== Sys2Proof/Word.lean ====
section
/-! DEFINITION. The word types of the hart (spec/10_state.md R20, spec/20_memory.md R100). -/
namespace Sys2Proof

/-- A 32-bit register value or address ("All general-purpose registers in the core are 32-bits wide"). -/
abbrev Word := BitVec 32

/-- One byte of memory. -/
abbrev Byte := BitVec 8

/-- A full 5-bit register number. -/
abbrev Reg := BitVec 5

/-- A primed 3-bit register field of a compressed instruction (R150). -/
abbrev RegC := BitVec 3

end Sys2Proof
end

