-- ==== Sys2Proof/Config.lean ====
section
/-! DEFINITION. The configuration parameters of the core (spec/00_scope.md R8 to R12) as plain data, and the
free values: constants without a body, so that nothing can be proved of what they are. -/
namespace Sys2Proof

/-- A window of addresses `[base, base + size)`. -/
structure Window where
  base : Nat
  size : Nat
  deriving DecidableEq, Repr

/-- A window of the data side: its addresses, and which accesses to them it is about (R12: `dmem_resp` is a function
of address, width and operation). -/
structure DataWindow where
  base : Nat
  size : Nat
  onLoad : Bool
  onStore : Bool
  bytes : Bool
  halves : Bool
  words : Bool
  deriving DecidableEq, Repr

/-- Per-vector bits and index of the IPIC (R462): vector v is bit v. -/
structure Ipic where
  ip   : BitVec 16
  ie   : BitVec 16
  im   : BitVec 16
  inv  : BitVec 16
  isv  : BitVec 16
  prev : BitVec 16
  idx  : BitVec 4
  deriving DecidableEq, Repr

/-- The parameters of R8 to R12. No step changes them (log 1). -/
structure Config where
  rve : Bool
  rvm : Bool
  rvc : Bool
  mtvecBaseWrMask : BitVec 26
  mtvecModeEn : Bool
  mprfRstEn : Bool
  mcountenEn : Bool
  countersEn : Bool
  dbgEn : Bool
  tduEn : Bool
  tduTrigNum : Nat
  tduIcountEn : Bool
  ipicEn : Bool
  tcmEn : Bool
  rstVector : Word
  mtvecBase : Word
  tcmMask : Word
  tcmPattern : Word
  timerMask : Word
  timerPattern : Word
  mhartid : Word
  mvendorid : Word
  idcode : Word
  buildId : Word
  /-- MISA bit 23 (D17). -/
  misaRvx : Bool
  /-- MEPC bit 1 is writable when RVC is off (D23). -/
  mepcBit1Rw : Bool
  /-- `MTVAL_EBREAK`: false is zero, true is the address (D8). -/
  mtvalEbreakAddr : Bool
  /-- `MTVAL_IFAULT_STRADDLE`: false is pc, true is pc + 2 (D26). -/
  mtvalStraddlePlus2 : Bool
  ipicReset : Ipic
  /-- Where the instruction-side and data-side responders answer an error, or never answer (R106, D20). -/
  imemErr : List Window
  dmemErr : List DataWindow
  imemHang : List Window
  dmemHang : List DataWindow
  deriving DecidableEq, Repr

/-- The places of the debug side that hold a free value (log 15). -/
inductive FreePlace where
  /-- DMCONTROL bit 31 as read (R522, D44) -/
  | dmcontrolBit31
  /-- a read of COMMAND (R527) -/
  | commandRead
  /-- the data and address of a DMI capture after a nop, the data after a write (R506), and the data after a read of DATA
  or PROGBUF while a command executes (R529) -/
  | dmiData
  | dmiAddr
  /-- DATA0 and DATA1 after a command, where it guarantees nothing of them (R529) -/
  | data0
  | data1
  /-- SCU_ACCESS.data after an operation other than READ (R507) -/
  | scuData
  deriving DecidableEq, Repr

namespace Config

/-- Clock cycles that pass in one step: unknown, non-negative (R43, D22; log 7). -/
opaque clocks : Nat → Nat
/-- Rising edges of rtc_clk seen in one step (R440; log 7). -/
opaque rtcEdges : Nat → Nat
/-- Position after a store to the timer, taken modulo the DIV+1 period (R55; R440, last sentence; log 8). -/
opaque prescalerAfterWrite : Nat → Nat
/-- After how many clock ticks the timer runs at the period of the DIV then in force again, after a store to it, and how many of
the clock ticks before that make MTIME tick (R440, last sentence; N41; log 8). -/
opaque settleAfterWrite : Nat → Nat
opaque settlingTicks : Nat → Nat
/-- Whether an instruction that writes MINSTRET[H] counts itself on top of the written value (D22; log 9). -/
opaque minstretCountsWrite : Nat → Bool
/-- Which copy of a stored-to word a fetch without FENCE.I sees, by occasion and address (R125, D21; log 10). -/
opaque staleChoice : Nat → Nat → Nat
/-- Whether a halt request is honoured before an interrupt at the same boundary (R540; log 11). -/
opaque haltFirst : Nat → Bool
/-- A value of the debug side that the spec does not give, by occasion and place (log 15). -/
opaque freeWord : Nat → FreePlace → Word
/-- A register after a reset without MPRF_RST_EN, by occasion and register number (R652, D18; log 17). -/
opaque resetReg : Nat → Nat → Word
/-- ICOUNT.count after the trigger fired, and whether it fires again unwritten (R579, D48; log 18). -/
opaque icountAfter : Nat → BitVec 14
opaque icountRefires : Nat → Bool
/-- Parameters with no recommended value (log 2). -/
opaque openMisaRvx : Bool
opaque openMepcBit1Rw : Bool
opaque openMtvalEbreakAddr : Bool
opaque openMtvalStraddlePlus2 : Bool
opaque openMhartid : Word

/-- The recommended configuration SCR1_CFG_RV32IMC_MAX (R11) with the default constants of R10. -/
def rv32imcMax : Config where
  rve := false
  rvm := true
  rvc := true
  mtvecBaseWrMask := 0x3FFFFFF#26
  mtvecModeEn := true
  mprfRstEn := true
  mcountenEn := true
  countersEn := true
  dbgEn := true
  tduEn := true
  tduTrigNum := 4
  tduIcountEn := true
  ipicEn := true
  tcmEn := true
  rstVector := 0x200#32
  mtvecBase := 0x1C0#32
  tcmMask := 0xFFFF0000#32
  tcmPattern := 0x00480000#32
  timerMask := 0xFFFFFFE0#32
  timerPattern := 0x00490000#32
  mhartid := openMhartid
  mvendorid := 0#32
  idcode := 0xDEB11001#32
  buildId := 0x22011200#32
  misaRvx := openMisaRvx
  mepcBit1Rw := openMepcBit1Rw
  mtvalEbreakAddr := openMtvalEbreakAddr
  mtvalStraddlePlus2 := openMtvalStraddlePlus2
  ipicReset := ⟨0, 0, 0, 0, 0, 0, 0⟩
  imemErr := []
  dmemErr := []
  imemHang := []
  dmemHang := []

end Config
end Sys2Proof
end

