-- ==== Sys2Proof/Machine/State.lean ====
section
/-! DEFINITION. The state of the machine as plain data, and its value right after reset (spec/10_state.md R20 to
R60, spec/61_ipic.md R462, spec/62_debug.md sections 2 to 10). -/
namespace Sys2Proof.Machine

/-- What would stop the machine for good. The spec has no such thing: exceptions are trapped, a bus transaction that is
never answered leaves the hart waiting while the rest goes on (R614), and a run has no end (R14, D29). -/
inductive Fault where
  /-- nobody raises it; safe -/
  | neverRaised
  deriving DecidableEq, Repr

/-- The cases for which the spec orders a model to produce no result (log 14). All are safe: nothing can be
proved of the state after them. -/
inductive Refusal where
  /-- an instruction with no meaning in this model; none is left -/
  | notModelled (mnemonic : String)
  /-- sequential flow past the last instruction address, single step and ICOUNT after it too, or an instruction straddling it
  (R26, D11) -/
  | pcPastTop
  /-- CSRRS, CSRRC, CSRRSI, CSRRCI writing an IPIC register (R287, D14) -/
  | ipicSetClear
  /-- MRET or resume to an address the pc cannot hold (R273, R541, D23) -/
  | misalignedReturn
  /-- timer block offsets 0x18 and 0x1C (R50, D24) -/
  | timerHole
  /-- a DMI access to a Reserved address (R521, D28) -/
  | dmiReservedAddress
  /-- DMI_ACCESS.op = 3 (R506: "Reserved.") -/
  | dmiReservedOp
  /-- ECALL or MRET in Debug Mode (R554, D31: "have undefined behavior") -/
  | undefinedInDebugMode
  /-- SCU STICKY_STATUS under WRITE or SET_BITS (R515, D37) -/
  | scuStickyWrite
  /-- a DMI access other than dmcontrol while a reset is asserted (R532, D37) -/
  | dmiDuringReset
  /-- MTVEC.MODE written 2 or 3 (R37, D38) -/
  | mtvecMode
  /-- an instruction that reads or changes pc in the Program Buffer, or one running past its end (R539, D43) -/
  | pcInProgramBuffer
  /-- an abstract command started while the halt request is set, or a 1 written to haltreq, resumereq or ackhavereset
  while a command executes (R533) -/
  | dmRequestDuringCommand
  /-- a reserved value written to TDATA1, or chain on the last address trigger (R571, R578, D47) -/
  | triggerReserved
  /-- ICOUNT with count other than 1, or firing again unwritten (R579, D48) -/
  | icountUnsupported
  deriving DecidableEq, Repr

/-- The machine-mode CSRs that are storage (R34 to R45). Reserved bits are kept as they read. -/
structure Csrs where
  mstatus : Word
  mie : Word
  mtvec : Word
  mscratch : Word
  mepc : Word
  mcause : Word
  mtval : Word
  mcycle : BitVec 64
  minstret : BitVec 64
  mcounten : Word
  deriving DecidableEq, Repr

/-- The memory-mapped timer (R50 to R53) and its hidden prescaler (R440). `settle` is the model's own: of how many clock ticks
still to come after a write the spec does not say which of them make MTIME tick (R440, N41; log 8). -/
structure Timer where
  ctrl : Word
  div : Word
  mtime : BitVec 64
  mtimecmp : BitVec 64
  prescaler : Nat
  settle : Nat
  deriving DecidableEq, Repr

/-- Levels of the input pins (R601, R604); a reset field is true while that reset is asserted. -/
structure Pins where
  softIrq : Bool
  extIrq : Bool
  irqLines : BitVec 16
  pwrup : Bool
  rst : Bool
  cpu : Bool
  trst : Bool
  deriving DecidableEq, Repr

/-- How far a Program Buffer run is (R538, R552, R553); `none` outside a run. -/
inductive PbStatus where
  | none
  | ended
  | exception
  deriving DecidableEq, Repr

/-- One trigger: TDATA1, TDATA2, and whether an ICOUNT has fired since TDATA1 was written (R570, R579). -/
structure Trigger where
  tdata1 : Word
  tdata2 : Word
  fired : Bool
  deriving DecidableEq, Repr

/-- The Debug Module (R522 to R531). `data0` is also CSR 0x7B2 (R561, D42); `busy` is set while a command waits for a bus
answer that never comes (R526, R533; log 34). -/
structure Dm where
  dmactive : Bool
  ndmreset : Bool
  haltreq : Bool
  resumeack : Bool
  havereset : Bool
  busy : Bool
  cmderr : BitVec 3
  command : Word
  autoexec : BitVec 2
  data0 : Word
  data1 : Word
  progbuf : Vector Word 6
  deriving DecidableEq, Repr

/-- The System Control Unit (R507, R512 to R515). -/
structure Scu where
  control : BitVec 4
  mode : BitVec 4
  sticky : BitVec 4
  lastOp : BitVec 2
  lastAddr : BitVec 2
  lastData : BitVec 4
  deriving DecidableEq, Repr

/-- The TAP controller (R502 to R506); `tdo` is what the last scan shifted out. -/
structure Tap where
  ir : BitVec 5
  dmistat : BitVec 2
  dmiData : Word
  dmiAddr : BitVec 7
  tdo : BitVec 41
  deriving DecidableEq, Repr

/-- The operations of SCU_ACCESS (R507). -/
inductive ScuOp where
  | write
  | read
  | setBits
  | clrBits
  deriving DecidableEq, Repr

/-- The reset pins (R642). -/
inductive ResetPin where
  | pwrup
  | rst
  | cpu
  | trst
  deriving DecidableEq, Repr

/-- What the outside world does, one event a step (R13, R630; log 12). -/
inductive HostEvent where
  /-- nothing: the hart takes a step -/
  | run
  | softIrq (level : Bool)
  | extIrq (level : Bool)
  | irqLine (line : Fin 16) (level : Bool)
  /-- a reset pin becomes asserted or de-asserted -/
  | resetPin (pin : ResetPin) (asserted : Bool)
  /-- another bus master writes a byte of outside memory (R123; log 32) -/
  | busWrite (addr : Word) (value : Byte)
  | dmiRead (addr : BitVec 7)
  | dmiWrite (addr : BitVec 7) (value : Word)
  | scu (op : ScuOp) (addr : BitVec 2) (data : BitVec 4)
  | irScan (ir : BitVec 5)
  | drScan (dr : BitVec 41)
  deriving DecidableEq, Repr

/-- Memory: the bytes that differ from what an unlisted address reads as, by rising address. -/
abbrev Memory := List Host.Cell

/-- The whole machine. `waiting`: the hart is inside an instruction, in front of a bus transaction that is not answered
(R106, R614; log 34). `stale`: aligned words by address, as they were before a store since the last FENCE.I (log 10). -/
structure State where
  cfg : Config
  regs : Vector Word 32
  pc : Word
  seqWrap : Bool
  sleeping : Bool
  debugMode : Bool
  waiting : Bool
  stale : List (Nat × Word)
  csr : Csrs
  timer : Timer
  ipic : Ipic
  pins : Pins
  dcsr : Word
  dpc : Word
  pb : PbStatus
  tselect : Word
  triggers : List Trigger
  dm : Dm
  scu : Scu
  tap : Tap
  mem : Memory
  freeCtr : Nat
  inputs : List HostEvent
  deriving DecidableEq, Repr

/-- CSR values after reset (R60). -/
def Csrs.reset (cfg : Config) : Csrs where
  mstatus := 0x1880
  mie := 0
  mtvec := cfg.mtvecBase &&& 0xFFFFFFC0
  mscratch := 0
  mepc := 0
  mcause := 0
  mtval := 0
  mcycle := 0
  minstret := 0
  mcounten := 0x5

/-- Timer after reset (R60); the prescaler's value is the model's, and no write is settling (log 8). -/
def Timer.reset : Timer where
  ctrl := 0x1
  div := 0
  mtime := 0
  mtimecmp := 0
  prescaler := 0
  settle := 0

/-- An MCONTROL trigger after reset (R572, R574; TDATA2: log 6). -/
def Trigger.resetMcontrol : Trigger := ⟨0x20000000, 0, false⟩

/-- The ICOUNT trigger after reset (R573; TDATA2: log 6). -/
def Trigger.resetIcount : Trigger := ⟨0x30000400, 0, false⟩

/-- The triggers of a configuration after reset: MCONTROL first, then ICOUNT (R570, D45). -/
def Trigger.resetAll (cfg : Config) : List Trigger :=
  if cfg.dbgEn && cfg.tduEn then
    List.replicate cfg.tduTrigNum resetMcontrol ++ (if cfg.tduIcountEn then [resetIcount] else [])
  else []

/-- Debug Module after reset, and as long as dmactive is 0 (R522 to R531). -/
def Dm.reset : Dm where
  dmactive := false
  ndmreset := false
  haltreq := false
  resumeack := false
  havereset := false
  busy := false
  cmderr := 0
  command := 0
  autoexec := 0
  data0 := 0
  data1 := 0
  progbuf := Vector.replicate 6 0

/-- SCU after Power-Up Reset (R512 to R515), with what SCU_ACCESS captures next (R507; log 25). -/
def Scu.reset : Scu := ⟨0, 0, 0, 0, 0, 0⟩

/-- TAPC after TAP reset (R502, R505, R506). -/
def Tap.reset : Tap := ⟨0x01, 0, 0, 0, 0⟩

/-- The machine right after Power-Up Reset is de-asserted, in the recommended configuration (R60, R651). -/
def State.reset : State where
  cfg := Config.rv32imcMax
  regs := Vector.replicate 32 0
  pc := Config.rv32imcMax.rstVector
  seqWrap := false
  sleeping := false
  debugMode := false
  waiting := false
  stale := []
  csr := Csrs.reset Config.rv32imcMax
  timer := Timer.reset
  ipic := Config.rv32imcMax.ipicReset
  pins := ⟨false, false, 0, false, false, false, false⟩
  dcsr := 0x40000003
  dpc := 0
  pb := .none
  tselect := 0
  triggers := Trigger.resetAll Config.rv32imcMax
  dm := Dm.reset
  scu := Scu.reset
  tap := Tap.reset
  mem := []
  freeCtr := 0
  inputs := []

end Sys2Proof.Machine
end

