-- ==== Sys2Proof/Machine/Ops.lean ====
section
/-! DEFINITION. The named operations: registers, memory, the timer's registers, retirement, taking an exception and
returning from one, Debug Mode entry (spec/20_memory.md, spec/60_exceptions.md sections 2 and 4). -/
namespace Sys2Proof.Machine

/-- What a meaning answers. -/
abbrev Result := Host.Outcome State Fault Refusal

/-! ## General registers -/

/-- `x[r]` (R16, R21). -/
def State.getReg (s : State) (r : Reg) : Word :=
  if r = 0#5 then 0#32 else s.regs[r.toNat]'(r.isLt)

/-- `x[r] <- v`; a write to x0 is discarded (R16, R21). -/
def State.setReg (s : State) (r : Reg) (v : Word) : State :=
  if r = 0#5 then s else { s with regs := s.regs.set r.toNat v r.isLt }

/-- The register a primed field names: x8 to x15 (R150). -/
def regC (r : RegC) : Reg := BitVec.ofNat 5 (8 + r.toNat)

/-! ## Memory cells -/

/-- What an address that is not listed reads as (log 4). -/
def Memory.blank : Byte := 0

/-- One byte. -/
def Memory.readByte : Memory → Nat → Byte
  | [], _ => Memory.blank
  | (k, v) :: t, a => if k = a then v else Memory.readByte t a

/-- Write one byte, keeping the canonical form. -/
def Memory.writeByte : Memory → Nat → Byte → Memory
  | [], a, v => if v = Memory.blank then [] else [(a, v)]
  | (k, w) :: t, a, v =>
    if a < k then (if v = Memory.blank then (k, w) :: t else (a, v) :: (k, w) :: t)
    else if a = k then (if v = Memory.blank then t else (a, v) :: t)
    else (k, w) :: Memory.writeByte t a v

/-- The canonical form: rising addresses of the 32-bit space, no byte that an unlisted address reads as. -/
abbrev Memory.wf (m : Memory) : Prop :=
  m.Pairwise (fun c d => c.1 < d.1) ∧ ∀ c ∈ m, c.2 ≠ Memory.blank ∧ c.1 < 2 ^ 32

/-- The address `k` bytes above `a`, modulo 2^32 (R100). -/
def addrAt (a : Word) (k : Nat) : Nat := (a + BitVec.ofNat 32 k).toNat

/-- One byte of the machine's memory as a load sees it. -/
def State.byteAt (s : State) (a : Word) : Byte := s.mem.readByte a.toNat

/-- `n` bytes from `a`, little-endian (R101). -/
def State.bytesAt (s : State) (a : Word) : Nat → Nat
  | 0 => 0
  | n + 1 => (s.mem.readByte a.toNat).toNat + 256 * State.bytesAt s (a + 1) n

/-- Store one byte in memory. -/
def State.storeByte (s : State) (a : Word) (v : Byte) : State := { s with mem := s.mem.writeByte a.toNat v }

/-- Store the low `n` bytes of `v` at `a`, little-endian (R101, R111). -/
def State.storeBytes (s : State) (a : Word) (v : Nat) : Nat → State
  | 0 => s
  | n + 1 => State.storeBytes (s.storeByte a (BitVec.ofNat 8 v)) (a + 1) (v / 256) n

/-- The address of the aligned word that holds `a`, which the instruction side reads whole (R105, R113). -/
def wordBase (a : Word) : Word := a &&& 0xFFFFFFFC

/-- The aligned word that holds `a`. -/
def State.wordHolding (s : State) (a : Word) : Word := BitVec.ofNat 32 (s.bytesAt (wordBase a) 4)

/-- The fetch queue may go on holding the word that a store changes (R125; log 10). -/
def noteStale (l : List (Nat × Word)) (a : Nat) (old new : Word) : List (Nat × Word) :=
  if old = new ∨ (a, old) ∈ l then l else (a, old) :: l

/-- A store of the low `n` bytes of `v` at `a`, aligned: memory, and the copy the fetch queue may still hold. -/
def State.store (s : State) (a : Word) (v n : Nat) : State :=
  { s.storeBytes a v n with
    stale := noteStale s.stale (wordBase a).toNat (s.wordHolding a) ((s.storeBytes a v n).wordHolding a) }

/-! ## Regions -/

def Window.covers (w : Window) (a : Word) : Bool :=
  decide (w.base ≤ a.toNat ∧ a.toNat < w.base + w.size)

/-- `a` lies in one of the windows. -/
def inWindows (l : List Window) (a : Word) : Bool := l.any (fun w => Window.covers w a)

/-- The window is about this access: its address, its width of `n` bytes, and whether it stores (R12). -/
def DataWindow.covers (w : DataWindow) (a : Word) (n : Nat) (store : Bool) : Bool :=
  decide (w.base ≤ a.toNat ∧ a.toNat < w.base + w.size) && (if store then w.onStore else w.onLoad) &&
    (if n = 1 then w.bytes else if n = 2 then w.halves else w.words)

/-- The access lies in one of the windows of the data side. -/
def inData (l : List DataWindow) (a : Word) (n : Nat) (store : Bool) : Bool := l.any (fun w => DataWindow.covers w a n store)

/-- The timer region (R50, R104). -/
def inTimer (cfg : Config) (a : Word) : Bool := (a &&& cfg.timerMask) == cfg.timerPattern

/-- The TCM region (R104, R105). -/
def inTcm (cfg : Config) (a : Word) : Bool := cfg.tcmEn && (a &&& cfg.tcmMask) == cfg.tcmPattern

/-! ## Exceptions -/

/-- The exceptions the hart raises (R410). -/
inductive Exc where
  | instrMisaligned
  | instrFault
  | illegal
  | breakpoint
  | loadMisaligned
  | loadFault
  | storeMisaligned
  | storeFault
  | ecallM
  deriving DecidableEq, Repr

/-- MCAUSE.EC (R40, R410). -/
def Exc.code : Exc → BitVec 4
  | .instrMisaligned => 0
  | .instrFault => 1
  | .illegal => 2
  | .breakpoint => 3
  | .loadMisaligned => 4
  | .loadFault => 5
  | .storeMisaligned => 6
  | .storeFault => 7
  | .ecallM => 11

/-- What an access answers: a value, an exception with its MTVAL, a refusal, or no answer ever. -/
inductive Access (α : Type) where
  | ok (v : α)
  | exn (e : Exc) (tval : Word)
  | refused (r : Refusal)
  | stuck

/-! ## The timer's registers (R50 to R53, R442) -/

def lo64 (x : BitVec 64) : Word := x.extractLsb' 0 32
def hi64 (x : BitVec 64) : Word := x.extractLsb' 32 32
def setLo64 (x : BitVec 64) (v : Word) : BitVec 64 := BitVec.ofNat 64 ((hi64 x).toNat * 2 ^ 32 + v.toNat)
def setHi64 (x : BitVec 64) (v : Word) : BitVec 64 := BitVec.ofNat 64 (v.toNat * 2 ^ 32 + (lo64 x).toNat)

/-- Offset inside the timer block: `addr & 0x1C` (R110). -/
def timerOffset (a : Word) : Nat := (a &&& 0x1C).toNat

def timerRead (t : Timer) (off : Nat) : Access Word :=
  match off with
  | 0x00 => .ok t.ctrl
  | 0x04 => .ok t.div
  | 0x08 => .ok (lo64 t.mtime)
  | 0x0C => .ok (hi64 t.mtime)
  | 0x10 => .ok (lo64 t.mtimecmp)
  | 0x14 => .ok (hi64 t.mtimecmp)
  | _ => .refused .timerHole

/-- The timer after a write that may restart the prescaler: the period of the DIV then in force applies after `w` more clock
ticks, from the position in it that `p` gives (R55, R440, N41; log 8). -/
def Timer.unsettle (t : Timer) (p w : Nat) : Timer := { t with prescaler := p % (t.div.toNat + 1), settle := w }

/-- A write takes the writable bits; where the source does not say when the next ticks come, `p` and `w` decide it (R440;
log 8). -/
def timerWrite (t : Timer) (p w : Nat) (off : Nat) (v : Word) : Access Timer :=
  match off with
  | 0x00 => .ok (({ t with ctrl := v &&& 0x3 } : Timer).unsettle p w)
  | 0x04 => .ok (({ t with div := v &&& 0x3FF } : Timer).unsettle p w)
  | 0x08 => .ok (({ t with mtime := setLo64 t.mtime v } : Timer).unsettle p w)
  | 0x0C => .ok (({ t with mtime := setHi64 t.mtime v } : Timer).unsettle p w)
  | 0x10 => .ok { t with mtimecmp := setLo64 t.mtimecmp v }
  | 0x14 => .ok { t with mtimecmp := setHi64 t.mtimecmp v }
  | _ => .refused .timerHole

/-! ## The access primitives (R110, R111) -/

/-- `MemRead(addr, n)`. -/
def memRead (s : State) (a : Word) (n : Nat) : Access Word :=
  if a.toNat % n ≠ 0 then .exn .loadMisaligned a
  else if inTimer s.cfg a then
    if n ≠ 4 then .exn .loadFault a else timerRead s.timer (timerOffset a)
  else if inTcm s.cfg a then .ok (BitVec.ofNat 32 (s.bytesAt a n))
  else if inData s.cfg.dmemHang a n false then .stuck
  else if inData s.cfg.dmemErr a n false then .exn .loadFault a
  else .ok (BitVec.ofNat 32 (s.bytesAt a n))

/-- `MemWrite(addr, n, v)`. -/
def memWrite (s : State) (a : Word) (n : Nat) (v : Word) : Access State :=
  if a.toNat % n ≠ 0 then .exn .storeMisaligned a
  else if inTimer s.cfg a then
    if n ≠ 4 then .exn .storeFault a
    else
      match timerWrite s.timer (Config.prescalerAfterWrite s.freeCtr) (Config.settleAfterWrite s.freeCtr) (timerOffset a) v with
      | .ok t => .ok { s with timer := t }
      | .exn e x => .exn e x
      | .refused r => .refused r
      | .stuck => .stuck
  else if inTcm s.cfg a then .ok (s.store a v.toNat n)
  else if inData s.cfg.dmemHang a n true then .stuck
  else if inData s.cfg.dmemErr a n true then .exn .storeFault a
  else .ok (s.store a v.toNat n)

/-- The hart waits inside the instruction for an answer that never comes: nothing of it changes any more, short of a
reset (R106, R614; log 34). -/
def State.wait (s : State) : State := { s with waiting := true }

/-! ## Traps (R420, R421, R424) -/

/-- The bits of MEPC that are storage (R39, D23). -/
def mepcBits (cfg : Config) (v : Word) : Word :=
  if cfg.rvc || cfg.mepcBit1Rw then v &&& 0xFFFFFFFE else v &&& 0xFFFFFFFC

/-- The vector address (R421). -/
def vector (mtvec : Word) (isInt : Bool) (code : BitVec 4) : Word :=
  let base := mtvec &&& 0xFFFFFFC0
  if mtvec.extractLsb' 0 2 = 1 ∧ isInt = true then base + BitVec.ofNat 32 (4 * code.toNat) else base

/-- MCAUSE of a trap (R40, R420). -/
def causeWord (isInt : Bool) (code : BitVec 4) : Word :=
  (if isInt then 0x80000000#32 else 0) ||| code.setWidth 32

/-- MSTATUS at trap entry: MPIE takes MIE, MIE is cleared, MPP reads 11 (R34, R420). -/
def trapStatus (m : Word) : Word := 0x1800 ||| (if m.getLsbD 3 then 0x80 else 0)

/-- MSTATUS after MRET: MIE takes MPIE, MPIE is set (R34, R273). -/
def mretStatus (m : Word) : Word := 0x1880 ||| (if m.getLsbD 7 then 0x8 else 0)

/-- Trap entry, one step (R420). -/
def State.takeTrap (s : State) (isInt : Bool) (code : BitVec 4) (tval epc : Word) : State :=
  { s with
    csr := { s.csr with
      mepc := mepcBits s.cfg epc
      mcause := causeWord isInt code
      mtval := tval
      mstatus := trapStatus s.csr.mstatus }
    pc := vector s.csr.mtvec isInt code
    seqWrap := false
    sleeping := false }

/-- `raise E(info)`: outside Debug Mode the trap; in Debug Mode the Program Buffer run ends and nothing else
changes (R16, R420, R552). -/
def raise (s : State) (e : Exc) (tval : Word) : Result :=
  if s.debugMode then .next { s with pb := .exception }
  else .next (s.takeTrap false e.code tval s.pc)

/-- The pc is a legal instruction address (R26). -/
def pcAligned (cfg : Config) (a : Word) : Bool :=
  !a.getLsbD 0 && (cfg.rvc || !a.getLsbD 1)

/-! ## Retirement (R25, R44) -/

/-- MCYCLE and MINSTRET exist (R30, D35). -/
def hasCounters (cfg : Config) : Bool := !cfg.rve || cfg.countersEn

/-- MCOUNTEN exists (R45). -/
def hasMcounten (cfg : Config) : Bool := hasCounters cfg && cfg.mcountenEn

/-- MINSTRET counts (R44, R45). -/
def State.countsInstret (s : State) : Bool := !hasMcounten s.cfg || s.csr.mcounten.getLsbD 2

/-- MCYCLE counts (R43, R45). -/
def State.countsCycles (s : State) : Bool := !hasMcounten s.cfg || s.csr.mcounten.getLsbD 0

/-- MINSTRET after one retired instruction, `on` telling whether it counts. -/
def State.countInstr (s : State) (on : Bool) : State :=
  { s with csr := { s.csr with minstret := if on then s.csr.minstret + 1 else s.csr.minstret } }

/-- pc advances past an instruction of `len` bytes; in the Program Buffer there is no pc (R25, R539; log 13, log 28). -/
def State.advance (s : State) (len : Nat) : State :=
  if s.debugMode then s
  else { s with pc := s.pc + BitVec.ofNat 32 len, seqWrap := decide (2 ^ 32 ≤ s.pc.toNat + len) }

/-- An instruction of `len` bytes retires without changing the flow of control. -/
def State.retire (s : State) (len : Nat) : State := (s.countInstr s.countsInstret).advance len

/-- A control transfer with link register `rd`: the target check comes before the link write (R231, D2, D43). -/
def jumpTo (s : State) (rd : Reg) (len : Nat) (target : Word) : Result :=
  if s.debugMode then .refused .pcInProgramBuffer
  else if !s.cfg.rvc && target.getLsbD 1 then raise s .instrMisaligned target
  else
    let s' := (s.countInstr s.countsInstret).setReg rd (s.pc + BitVec.ofNat 32 len)
    .next { s' with pc := target, seqWrap := false }

/-- Return from a trap (R273, R424); refused where the target is misaligned (D23). -/
def State.trapReturn (s : State) : Result :=
  let target := s.csr.mepc &&& 0xFFFFFFFE
  if !s.cfg.rvc && target.getLsbD 1 then .refused .misalignedReturn
  else
    let s' := s.countInstr s.countsInstret
    .next { s' with
      csr := { s'.csr with mstatus := mretStatus s.csr.mstatus }
      pc := target
      seqWrap := false }

/-! ## Debug Mode entry (R540) -/

def causeEbreak : BitVec 3 := 1
def causeTrigger : BitVec 3 := 2
def causeHaltreq : BitVec 3 := 3
def causeStep : BitVec 3 := 4

/-- Enter Debug Mode with a cause and a DPC; nothing else of the hart changes. -/
def State.enterDebug (s : State) (cause : BitVec 3) (dpc : Word) : State :=
  { s with
    debugMode := true
    sleeping := false
    seqWrap := false
    pb := .none
    dcsr := (s.dcsr &&& 0xFFFFFE3F) ||| BitVec.ofNat 32 (cause.toNat * 64)
    dpc := dpc }

/-- The hart is single-stepped: DCSR.step outside Debug Mode (R542). -/
def State.stepping (s : State) : Bool := s.cfg.dbgEn && s.dcsr.getLsbD 2 && !s.debugMode

end Sys2Proof.Machine
end

