-- ==== Sys2Proof/Machine/Ipic.lean ====
section
/-! DEFINITION. The interrupt controller: its registers and its clock (spec/61_ipic.md). -/
namespace Sys2Proof

/-- `VOID`, the void interrupt vector (R461). -/
def voidVector : Nat := 16

/-- `lowest(S)`: the number of the lowest set bit, or VOID (R461). -/
def lowest (x : BitVec 16) : Nat :=
  match (List.range 16).find? (fun v => x.getLsbD v) with
  | some v => v
  | none => voidVector

/-- The set with the one vector `v`; empty for VOID. -/
def vecBit (v : Nat) : BitVec 16 := if v < 16 then BitVec.ofNat 16 (2 ^ v) else 0

/-- Bit `v` of `x` becomes `b`. -/
def putBit (x : BitVec 16) (v : Nat) (b : Bool) : BitVec 16 :=
  if b then x ||| vecBit v else x &&& ~~~(vecBit v)

/-- The vector in service, IPIC_CISV (R466). -/
def Ipic.cisv (p : Ipic) : Nat := lowest p.isv

/-- The highest-priority pending enabled vector (R471, R477). -/
def Ipic.candidate (p : Ipic) : Nat := lowest (p.ip &&& p.ie)

/-- The request to the hart (R476, D39). -/
def Ipic.request (p : Ipic) : Bool := decide (p.candidate < p.cisv)

/-- "clear IP[v]" for every v of `set`: lasting only in edge mode (R475, D40; log 23). -/
def Ipic.clearPending (p : Ipic) (set : BitVec 16) : Ipic := { p with ip := p.ip &&& ~~~(set &&& p.im) }

/-- A bit as a number. -/
def b2n (b : Bool) : Nat := if b then 1 else 0

/-- IPIC_CICSR (R467). -/
def Ipic.readCicsr (p : Ipic) : Word :=
  if p.cisv = voidVector then 0
  else BitVec.ofNat 32 (b2n (p.ie.getLsbD p.cisv) * 2 + b2n (p.ip.getLsbD p.cisv))

/-- IPIC_ICSR (R473). -/
def Ipic.readIcsr (p : Ipic) : Word :=
  let i := p.idx.toNat
  BitVec.ofNat 32 (i * 4096 + 3 * 256 + b2n (p.isv.getLsbD i) * 16 + b2n (p.inv.getLsbD i) * 8
    + b2n (p.im.getLsbD i) * 4 + b2n (p.ie.getLsbD i) * 2 + b2n (p.ip.getLsbD i))

/-- Read of the register at offset `off` of 0xBF0 (R463 to R473). -/
def Ipic.read (p : Ipic) (off : Nat) : Word :=
  match off with
  | 0 => BitVec.ofNat 32 p.cisv
  | 1 => p.readCicsr
  | 2 => p.ip.setWidth 32
  | 3 => p.isv.setWidth 32
  | 6 => p.idx.setWidth 32
  | 7 => p.readIcsr
  | _ => 0

/-- Write of IPIC_CICSR (R467, D41). -/
def Ipic.writeCicsr (p : Ipic) (v : Word) : Ipic :=
  if p.cisv = voidVector then p
  else
    let p' := { p with ie := putBit p.ie p.cisv (v.getLsbD 1) }
    if v.getLsbD 0 then p'.clearPending (vecBit p.cisv) else p'

/-- End of interrupt (R470, D41). -/
def Ipic.eoi (p : Ipic) : Ipic := { p with isv := p.isv &&& ~~~(vecBit p.cisv) }

/-- Start of interrupt (R471, D41). -/
def Ipic.soi (p : Ipic) : Ipic :=
  if p.candidate < p.cisv then
    { p with isv := p.isv ||| vecBit p.candidate }.clearPending (vecBit p.candidate)
  else p

/-- Write of IPIC_ICSR: the fields, then the pending bit under the mode just written (R473; log 23). -/
def Ipic.writeIcsr (p : Ipic) (v : Word) : Ipic :=
  let i := p.idx.toNat
  let p' := { p with
    ie := putBit p.ie i (v.getLsbD 1)
    im := putBit p.im i (v.getLsbD 2)
    inv := putBit p.inv i (v.getLsbD 3)
    isv := putBit p.isv i (v.getLsbD 4) }
  if v.getLsbD 0 then p'.clearPending (vecBit i) else p'

/-- Write of the register at offset `off` of 0xBF0 (R464 to R473). -/
def Ipic.write (p : Ipic) (off : Nat) (v : Word) : Ipic :=
  match off with
  | 1 => p.writeCicsr v
  | 2 => p.clearPending (v.extractLsb' 0 16)
  | 4 => p.eoi
  | 5 => p.soi
  | 6 => { p with idx := v.extractLsb' 0 4 }
  | 7 => p.writeIcsr v
  | _ => p

/-- One clock with the lines at `lines` (R474, R475, D40). -/
def Ipic.clock (p : Ipic) (lines : BitVec 16) : Ipic :=
  let l := lines ^^^ p.inv
  { p with
    ip := (l &&& ~~~p.im) ||| ((p.ip ||| (l &&& ~~~p.prev)) &&& p.im)
    prev := l }

end Sys2Proof
end

