-- ==== Sys2Proof/Syntax.lean ====
section
/-! DEFINITION. The instructions: one constructor for each row of spec/opcode_table.json (R148, R152).
Immediates have the width the encoding gives them and exclude bits that are always zero; the docstrings say which
bits they are (R143, R144, R151). -/
namespace Sys2Proof

/-- Table order: RV32I, system and CSR, M, C. -/
inductive Instr where
  -- `imm` is imm[31:12]
  | lui (rd : Reg) (imm : BitVec 20)
  | auipc (rd : Reg) (imm : BitVec 20)
  -- `off` is imm[20:1]
  | jal (rd : Reg) (off : BitVec 20)
  | jalr (rd rs1 : Reg) (imm : BitVec 12)
  -- `off` is imm[12:1]
  | beq (rs1 rs2 : Reg) (off : BitVec 12)
  | bne (rs1 rs2 : Reg) (off : BitVec 12)
  | blt (rs1 rs2 : Reg) (off : BitVec 12)
  | bge (rs1 rs2 : Reg) (off : BitVec 12)
  | bltu (rs1 rs2 : Reg) (off : BitVec 12)
  | bgeu (rs1 rs2 : Reg) (off : BitVec 12)
  | lb (rd rs1 : Reg) (imm : BitVec 12)
  | lh (rd rs1 : Reg) (imm : BitVec 12)
  | lw (rd rs1 : Reg) (imm : BitVec 12)
  | lbu (rd rs1 : Reg) (imm : BitVec 12)
  | lhu (rd rs1 : Reg) (imm : BitVec 12)
  | sb (rs1 rs2 : Reg) (imm : BitVec 12)
  | sh (rs1 rs2 : Reg) (imm : BitVec 12)
  | sw (rs1 rs2 : Reg) (imm : BitVec 12)
  | addi (rd rs1 : Reg) (imm : BitVec 12)
  | slti (rd rs1 : Reg) (imm : BitVec 12)
  | sltiu (rd rs1 : Reg) (imm : BitVec 12)
  | xori (rd rs1 : Reg) (imm : BitVec 12)
  | ori (rd rs1 : Reg) (imm : BitVec 12)
  | andi (rd rs1 : Reg) (imm : BitVec 12)
  | slli (rd rs1 : Reg) (shamt : BitVec 5)
  | srli (rd rs1 : Reg) (shamt : BitVec 5)
  | srai (rd rs1 : Reg) (shamt : BitVec 5)
  | add (rd rs1 rs2 : Reg)
  | sub (rd rs1 rs2 : Reg)
  | sll (rd rs1 rs2 : Reg)
  | slt (rd rs1 rs2 : Reg)
  | sltu (rd rs1 rs2 : Reg)
  | xor (rd rs1 rs2 : Reg)
  | srl (rd rs1 rs2 : Reg)
  | sra (rd rs1 rs2 : Reg)
  | or (rd rs1 rs2 : Reg)
  | and (rd rs1 rs2 : Reg)
  | fence (pred succ : BitVec 4)
  | fenceI
  | ecall
  | ebreak
  | mret
  | wfi
  | csrrw (rd rs1 : Reg) (csr : BitVec 12)
  | csrrs (rd rs1 : Reg) (csr : BitVec 12)
  | csrrc (rd rs1 : Reg) (csr : BitVec 12)
  | csrrwi (rd zimm : BitVec 5) (csr : BitVec 12)
  | csrrsi (rd zimm : BitVec 5) (csr : BitVec 12)
  | csrrci (rd zimm : BitVec 5) (csr : BitVec 12)
  | mul (rd rs1 rs2 : Reg)
  | mulh (rd rs1 rs2 : Reg)
  | mulhsu (rd rs1 rs2 : Reg)
  | mulhu (rd rs1 rs2 : Reg)
  | div (rd rs1 rs2 : Reg)
  | divu (rd rs1 rs2 : Reg)
  | rem (rd rs1 rs2 : Reg)
  | remu (rd rs1 rs2 : Reg)
  | cIllegal
  -- `imm` is nzuimm[9:2]
  | cAddi4spn (rd : RegC) (imm : BitVec 8)
  -- `imm` is uimm[6:2]
  | cLw (rd rs1 : RegC) (imm : BitVec 5)
  | cSw (rs1 rs2 : RegC) (imm : BitVec 5)
  | cNop
  -- `imm` is imm[5:0]
  | cAddi (rd : Reg) (imm : BitVec 6)
  -- `off` is off[11:1]
  | cJal (off : BitVec 11)
  | cLi (rd : Reg) (imm : BitVec 6)
  -- `imm` is nzimm[9:4]
  | cAddi16sp (imm : BitVec 6)
  -- `imm` is nzimm[17:12]
  | cLui (rd : Reg) (imm : BitVec 6)
  | cSrli (rd : RegC) (shamt : BitVec 5)
  | cSrai (rd : RegC) (shamt : BitVec 5)
  | cAndi (rd : RegC) (imm : BitVec 6)
  | cSub (rd rs2 : RegC)
  | cXor (rd rs2 : RegC)
  | cOr (rd rs2 : RegC)
  | cAnd (rd rs2 : RegC)
  | cJ (off : BitVec 11)
  -- `off` is off[8:1]
  | cBeqz (rs1 : RegC) (off : BitVec 8)
  | cBnez (rs1 : RegC) (off : BitVec 8)
  | cSlli (rd : Reg) (shamt : BitVec 5)
  -- `imm` is uimm[7:2]
  | cLwsp (rd : Reg) (imm : BitVec 6)
  | cJr (rs1 : Reg)
  | cMv (rd rs2 : Reg)
  | cEbreak
  | cJalr (rs1 : Reg)
  | cAdd (rd rs2 : Reg)
  | cSwsp (rs2 : Reg) (imm : BitVec 6)
  deriving DecidableEq, Repr

end Sys2Proof
end

