-- ==== Sys2Proof/WellFormed.lean ====
section
/-! DEFINITION. Which instructions a configuration has (R9, R22, R140, R153, R160). -/
namespace Sys2Proof

/-- The rows of the 16-bit tables (R152). -/
def Instr.isCompressed : Instr → Bool
  | .cIllegal | .cAddi4spn .. | .cLw .. | .cSw .. | .cNop | .cAddi .. | .cJal .. | .cLi .. | .cAddi16sp ..
  | .cLui .. | .cSrli .. | .cSrai .. | .cAndi .. | .cSub .. | .cXor .. | .cOr .. | .cAnd .. | .cJ ..
  | .cBeqz .. | .cBnez .. | .cSlli .. | .cLwsp .. | .cJr .. | .cMv .. | .cEbreak | .cJalr .. | .cAdd ..
  | .cSwsp .. => true
  | .lui .. | .auipc .. | .jal .. | .jalr .. | .beq .. | .bne .. | .blt .. | .bge .. | .bltu .. | .bgeu ..
  | .lb .. | .lh .. | .lw .. | .lbu .. | .lhu .. | .sb .. | .sh .. | .sw .. | .addi .. | .slti .. | .sltiu ..
  | .xori .. | .ori .. | .andi .. | .slli .. | .srli .. | .srai .. | .add .. | .sub .. | .sll .. | .slt ..
  | .sltu .. | .xor .. | .srl .. | .sra .. | .or .. | .and .. | .fence .. | .fenceI | .ecall | .ebreak | .mret
  | .wfi | .csrrw .. | .csrrs .. | .csrrc .. | .csrrwi .. | .csrrsi .. | .csrrci .. | .mul .. | .mulh ..
  | .mulhsu .. | .mulhu .. | .div .. | .divu .. | .rem .. | .remu .. => false

/-- The rows that exist only with RVM (R148). -/
def Instr.needsM : Instr → Bool
  | .mul .. | .mulh .. | .mulhsu .. | .mulhu .. | .div .. | .divu .. | .rem .. | .remu .. => true
  | _ => false

/-- The full 5-bit register fields of an instruction (R22: primed fields are always valid). -/
def Instr.fullRegs : Instr → List Reg
  | .lui rd _ | .auipc rd _ | .jal rd _ => [rd]
  | .jalr rd rs1 _ | .lb rd rs1 _ | .lh rd rs1 _ | .lw rd rs1 _ | .lbu rd rs1 _ | .lhu rd rs1 _
  | .addi rd rs1 _ | .slti rd rs1 _ | .sltiu rd rs1 _ | .xori rd rs1 _ | .ori rd rs1 _ | .andi rd rs1 _
  | .slli rd rs1 _ | .srli rd rs1 _ | .srai rd rs1 _ | .csrrw rd rs1 _ | .csrrs rd rs1 _ | .csrrc rd rs1 _ => [rd, rs1]
  | .beq rs1 rs2 _ | .bne rs1 rs2 _ | .blt rs1 rs2 _ | .bge rs1 rs2 _ | .bltu rs1 rs2 _ | .bgeu rs1 rs2 _
  | .sb rs1 rs2 _ | .sh rs1 rs2 _ | .sw rs1 rs2 _ => [rs1, rs2]
  | .add rd rs1 rs2 | .sub rd rs1 rs2 | .sll rd rs1 rs2 | .slt rd rs1 rs2 | .sltu rd rs1 rs2 | .xor rd rs1 rs2
  | .srl rd rs1 rs2 | .sra rd rs1 rs2 | .or rd rs1 rs2 | .and rd rs1 rs2 | .mul rd rs1 rs2 | .mulh rd rs1 rs2
  | .mulhsu rd rs1 rs2 | .mulhu rd rs1 rs2 | .div rd rs1 rs2 | .divu rd rs1 rs2 | .rem rd rs1 rs2
  | .remu rd rs1 rs2 => [rd, rs1, rs2]
  | .csrrwi rd _ _ | .csrrsi rd _ _ | .csrrci rd _ _ => [rd]
  | .cAddi rd _ | .cLi rd _ | .cLui rd _ | .cSlli rd _ | .cLwsp rd _ => [rd]
  | .cJr rs1 | .cJalr rs1 => [rs1]
  | .cMv rd rs2 | .cAdd rd rs2 => [rd, rs2]
  | .cSwsp rs2 _ => [rs2]
  | .fence .. | .fenceI | .ecall | .ebreak | .mret | .wfi | .cIllegal | .cAddi4spn .. | .cLw .. | .cSw ..
  | .cNop | .cJal .. | .cAddi16sp .. | .cSrli .. | .cSrai .. | .cAndi .. | .cSub .. | .cXor .. | .cOr ..
  | .cAnd .. | .cJ .. | .cBeqz .. | .cBnez .. | .cEbreak => []

/-- Under RVE the registers are x0 to x15 (R22). -/
def Instr.regsOk (cfg : Config) (i : Instr) : Bool :=
  !cfg.rve || i.fullRegs.all (fun r => r.toNat < 16)

/-- The extension the row needs is present (R148, R160). -/
def Instr.extOk (cfg : Config) (i : Instr) : Bool :=
  (!i.needsM || cfg.rvm) && (!i.isCompressed || cfg.rvc)

/-- Operand values that belong to another row or are reserved (R152, R153). -/
def Instr.operandsOk : Instr → Bool
  | .cAddi4spn _ imm => imm != 0
  | .cAddi rd imm => !(rd == 0 && imm == 0)
  | .cAddi16sp imm => imm != 0
  | .cLui rd imm => rd != 2 && imm != 0
  | .cLwsp rd _ => rd != 0
  | .cJr rs1 => rs1 != 0
  | .cJalr rs1 => rs1 != 0
  | .cMv _ rs2 => rs2 != 0
  | .cAdd _ rs2 => rs2 != 0
  | _ => true

/-- An instruction of the configuration, as its decoder can produce it. -/
def Instr.wellFormed (cfg : Config) (i : Instr) : Bool :=
  i.extOk cfg && i.regsOk cfg && i.operandsOk

end Sys2Proof
end

