-- ==== Sys2Proof/Decode.lean ====
section
/-! DEFINITION. Decoding (R140 to R163) and, after it, encoding, both from the tables of spec/30_encoding.md. -/
namespace Sys2Proof

/-- Why bytes are no instruction; the hart takes illegal instruction for each but `tooShort` (R160). -/
inductive DecodeError where
  /-- fewer bytes than the instruction's length -/
  | tooShort
  /-- no row of R148 or R152 matches -/
  | unlisted
  /-- marked RES in the source's tables (R153) -/
  | reserved
  /-- marked NSE in the source's tables (R153) -/
  | nonStandard
  /-- a row of an extension that is absent (R160) -/
  | noExtension
  /-- a register above x15 under RVE (R22) -/
  | rveRegister
  deriving DecidableEq, Repr

/-- Concatenation of pieces of `x`, the first the most significant; a piece is (its lowest bit, its width). -/
def gatherFrom (x : Nat) : List (Nat × Nat) → Nat → Nat
  | [], acc => acc
  | (lo, len) :: t, acc => gatherFrom x t (acc * 2 ^ len + x / 2 ^ lo % 2 ^ len)

/-- The `k` bits made of the pieces of `c`, high to low: `gather 12 w [(25, 7), (7, 5)]` is `(w[31:25], w[11:7])`. -/
def gather {n : Nat} (k : Nat) (c : BitVec n) (pieces : List (Nat × Nat)) : BitVec k :=
  BitVec.ofNat k (gatherFrom c.toNat pieces 0)

/-! ## The 32-bit words -/

/-- B-imm[12:1] (R143). -/
def immB (w : BitVec 32) : BitVec 12 := gather 12 w [(31, 1), (7, 1), (25, 6), (8, 4)]
/-- S-imm (R143). -/
def immS (w : BitVec 32) : BitVec 12 := gather 12 w [(25, 7), (7, 5)]
/-- J-imm[20:1] (R143). -/
def immJ (w : BitVec 32) : BitVec 20 := gather 20 w [(31, 1), (12, 8), (20, 1), (21, 10)]

/-- Opcode 0110011 (R148). -/
def decodeOp (f7 f3 : Nat) (rd rs1 rs2 : Reg) : Except DecodeError Instr :=
  match f7, f3 with
  | 0, 0 => .ok (.add rd rs1 rs2)
  | 32, 0 => .ok (.sub rd rs1 rs2)
  | 0, 1 => .ok (.sll rd rs1 rs2)
  | 0, 2 => .ok (.slt rd rs1 rs2)
  | 0, 3 => .ok (.sltu rd rs1 rs2)
  | 0, 4 => .ok (.xor rd rs1 rs2)
  | 0, 5 => .ok (.srl rd rs1 rs2)
  | 32, 5 => .ok (.sra rd rs1 rs2)
  | 0, 6 => .ok (.or rd rs1 rs2)
  | 0, 7 => .ok (.and rd rs1 rs2)
  | 1, 0 => .ok (.mul rd rs1 rs2)
  | 1, 1 => .ok (.mulh rd rs1 rs2)
  | 1, 2 => .ok (.mulhsu rd rs1 rs2)
  | 1, 3 => .ok (.mulhu rd rs1 rs2)
  | 1, 4 => .ok (.div rd rs1 rs2)
  | 1, 5 => .ok (.divu rd rs1 rs2)
  | 1, 6 => .ok (.rem rd rs1 rs2)
  | 1, 7 => .ok (.remu rd rs1 rs2)
  | _, _ => .error .unlisted

/-- Opcode 0010011 (R148). -/
def decodeOpImm (f7 f3 : Nat) (rd rs1 : Reg) (imm : BitVec 12) (shamt : BitVec 5) : Except DecodeError Instr :=
  match f3 with
  | 0 => .ok (.addi rd rs1 imm)
  | 2 => .ok (.slti rd rs1 imm)
  | 3 => .ok (.sltiu rd rs1 imm)
  | 4 => .ok (.xori rd rs1 imm)
  | 6 => .ok (.ori rd rs1 imm)
  | 7 => .ok (.andi rd rs1 imm)
  | 1 => if f7 = 0 then .ok (.slli rd rs1 shamt) else .error .unlisted
  | 5 =>
    if f7 = 0 then .ok (.srli rd rs1 shamt)
    else if f7 = 32 then .ok (.srai rd rs1 shamt)
    else .error .unlisted
  | _ => .error .unlisted

/-- Opcode 1100011 (R148). -/
def decodeBranch (f3 : Nat) (rs1 rs2 : Reg) (off : BitVec 12) : Except DecodeError Instr :=
  match f3 with
  | 0 => .ok (.beq rs1 rs2 off)
  | 1 => .ok (.bne rs1 rs2 off)
  | 4 => .ok (.blt rs1 rs2 off)
  | 5 => .ok (.bge rs1 rs2 off)
  | 6 => .ok (.bltu rs1 rs2 off)
  | 7 => .ok (.bgeu rs1 rs2 off)
  | _ => .error .unlisted

/-- Opcode 0000011 (R148). -/
def decodeLoad (f3 : Nat) (rd rs1 : Reg) (imm : BitVec 12) : Except DecodeError Instr :=
  match f3 with
  | 0 => .ok (.lb rd rs1 imm)
  | 1 => .ok (.lh rd rs1 imm)
  | 2 => .ok (.lw rd rs1 imm)
  | 4 => .ok (.lbu rd rs1 imm)
  | 5 => .ok (.lhu rd rs1 imm)
  | _ => .error .unlisted

/-- Opcode 0100011 (R148). -/
def decodeStore (f3 : Nat) (rs1 rs2 : Reg) (imm : BitVec 12) : Except DecodeError Instr :=
  match f3 with
  | 0 => .ok (.sb rs1 rs2 imm)
  | 1 => .ok (.sh rs1 rs2 imm)
  | 2 => .ok (.sw rs1 rs2 imm)
  | _ => .error .unlisted

/-- Opcode 0001111: every printed bit must match (R149, D5). `pre` is bits 31:28, `rest` is (rs1, rd). -/
def decodeFence (f3 pre : Nat) (rs1 rd : Reg) (pred succ : BitVec 4) : Except DecodeError Instr :=
  if rs1 = 0 ∧ rd = 0 ∧ pre = 0 then
    match f3 with
    | 0 => .ok (.fence pred succ)
    | 1 => if pred = 0 ∧ succ = 0 then .ok .fenceI else .error .unlisted
    | _ => .error .unlisted
  else .error .unlisted

/-- Opcode 1110011 (R147, R149, R270, R280). -/
def decodeSystem (f3 : Nat) (rd rs1 : Reg) (csr : BitVec 12) : Except DecodeError Instr :=
  match f3 with
  | 0 =>
    if rd = 0 ∧ rs1 = 0 then
      match csr.toNat with
      | 0x000 => .ok .ecall
      | 0x001 => .ok .ebreak
      | 0x302 => .ok .mret
      | 0x105 => .ok .wfi
      | _ => .error .unlisted
    else .error .unlisted
  | 1 => .ok (.csrrw rd rs1 csr)
  | 2 => .ok (.csrrs rd rs1 csr)
  | 3 => .ok (.csrrc rd rs1 csr)
  | 5 => .ok (.csrrwi rd rs1 csr)
  | 6 => .ok (.csrrsi rd rs1 csr)
  | 7 => .ok (.csrrci rd rs1 csr)
  | _ => .error .unlisted

/-- The row of R148 that a 32-bit word matches. -/
def decode32 (w : BitVec 32) : Except DecodeError Instr :=
  let rd : Reg := w.extractLsb' 7 5
  let f3 := (w.extractLsb' 12 3).toNat
  let rs1 : Reg := w.extractLsb' 15 5
  let rs2 : Reg := w.extractLsb' 20 5
  let f7 := (w.extractLsb' 25 7).toNat
  let immI : BitVec 12 := w.extractLsb' 20 12
  match (w.extractLsb' 0 7).toNat with
  | 0x37 => .ok (.lui rd (w.extractLsb' 12 20))
  | 0x17 => .ok (.auipc rd (w.extractLsb' 12 20))
  | 0x6F => .ok (.jal rd (immJ w))
  | 0x67 => if f3 = 0 then .ok (.jalr rd rs1 immI) else .error .unlisted
  | 0x63 => decodeBranch f3 rs1 rs2 (immB w)
  | 0x03 => decodeLoad f3 rd rs1 immI
  | 0x23 => decodeStore f3 rs1 rs2 (immS w)
  | 0x13 => decodeOpImm f7 f3 rd rs1 immI rs2
  | 0x33 => decodeOp f7 f3 rd rs1 rs2
  | 0x0F => decodeFence f3 (w.extractLsb' 28 4).toNat rs1 rd (w.extractLsb' 24 4) (w.extractLsb' 20 4)
  | 0x73 => decodeSystem f3 rd rs1 immI
  | _ => .error .unlisted

/-! ## The 16-bit words -/

/-- off[11:1] of C.J and C.JAL (R151). -/
def immCJ (c : BitVec 16) : BitVec 11 :=
  gather 11 c [(12, 1), (8, 1), (9, 2), (6, 1), (7, 1), (2, 1), (11, 1), (3, 3)]
/-- off[8:1] of C.BEQZ and C.BNEZ (R151). -/
def immCB (c : BitVec 16) : BitVec 8 := gather 8 c [(12, 1), (5, 2), (2, 1), (10, 2), (3, 2)]
/-- imm[5:0] of the CI format (R151). -/
def immCI (c : BitVec 16) : BitVec 6 := gather 6 c [(12, 1), (2, 5)]
/-- uimm[6:2] of C.LW and C.SW (R151). -/
def immCL (c : BitVec 16) : BitVec 5 := gather 5 c [(5, 1), (10, 3), (6, 1)]
/-- nzuimm[9:2] of C.ADDI4SPN (R151). -/
def immCIW (c : BitVec 16) : BitVec 8 := gather 8 c [(7, 4), (11, 2), (5, 1), (6, 1)]
/-- nzimm[9:4] of C.ADDI16SP (R151). -/
def immC16sp (c : BitVec 16) : BitVec 6 := gather 6 c [(12, 1), (3, 2), (5, 1), (2, 1), (6, 1)]
/-- uimm[7:2] of C.LWSP (R151). -/
def immCLwsp (c : BitVec 16) : BitVec 6 := gather 6 c [(2, 2), (12, 1), (4, 3)]
/-- uimm[7:2] of C.SWSP (R151). -/
def immCSwsp (c : BitVec 16) : BitVec 6 := gather 6 c [(7, 2), (9, 4)]

/-- Quadrant 0 (R152, R153). -/
def decodeQ0 (f3 : Nat) (c : BitVec 16) : Except DecodeError Instr :=
  let rdC : RegC := c.extractLsb' 2 3
  let rs1C : RegC := c.extractLsb' 7 3
  match f3 with
  | 0 =>
    if c = 0 then .ok .cIllegal
    else if immCIW c = 0 then .error .reserved
    else .ok (.cAddi4spn rdC (immCIW c))
  | 2 => .ok (.cLw rdC rs1C (immCL c))
  | 6 => .ok (.cSw rs1C rdC (immCL c))
  | _ => .error .unlisted

/-- Quadrant 1, funct3 = 100 (R152, R153). -/
def decodeQ1Alu (c : BitVec 16) : Except DecodeError Instr :=
  let rdC : RegC := c.extractLsb' 7 3
  let rs2C : RegC := c.extractLsb' 2 3
  let sh : BitVec 5 := c.extractLsb' 2 5
  let b12 := (c.extractLsb' 12 1).toNat
  match (c.extractLsb' 10 2).toNat with
  | 0 => if b12 = 0 then .ok (.cSrli rdC sh) else .error .nonStandard
  | 1 => if b12 = 0 then .ok (.cSrai rdC sh) else .error .nonStandard
  | 2 => .ok (.cAndi rdC (immCI c))
  | _ =>
    if b12 = 0 then
      match (c.extractLsb' 5 2).toNat with
      | 0 => .ok (.cSub rdC rs2C)
      | 1 => .ok (.cXor rdC rs2C)
      | 2 => .ok (.cOr rdC rs2C)
      | _ => .ok (.cAnd rdC rs2C)
    else .error .unlisted

/-- Quadrant 1 (R152, R153). -/
def decodeQ1 (f3 : Nat) (c : BitVec 16) : Except DecodeError Instr :=
  let rd : Reg := c.extractLsb' 7 5
  let rs1C : RegC := c.extractLsb' 7 3
  match f3 with
  | 0 => if rd = 0 ∧ immCI c = 0 then .ok .cNop else .ok (.cAddi rd (immCI c))
  | 1 => .ok (.cJal (immCJ c))
  | 2 => .ok (.cLi rd (immCI c))
  | 3 =>
    if rd = 2 then
      if immC16sp c = 0 then .error .reserved else .ok (.cAddi16sp (immC16sp c))
    else if immCI c = 0 then .error .reserved
    else .ok (.cLui rd (immCI c))
  | 4 => decodeQ1Alu c
  | 5 => .ok (.cJ (immCJ c))
  | 6 => .ok (.cBeqz rs1C (immCB c))
  | _ => .ok (.cBnez rs1C (immCB c))

/-- Quadrant 2 (R152, R153). -/
def decodeQ2 (f3 : Nat) (c : BitVec 16) : Except DecodeError Instr :=
  let rd : Reg := c.extractLsb' 7 5
  let rs2 : Reg := c.extractLsb' 2 5
  let b12 := (c.extractLsb' 12 1).toNat
  match f3 with
  | 0 => if b12 = 0 then .ok (.cSlli rd rs2) else .error .nonStandard
  | 2 => if rd = 0 then .error .reserved else .ok (.cLwsp rd (immCLwsp c))
  | 4 =>
    if b12 = 0 then
      if rs2 = 0 then
        if rd = 0 then .error .reserved else .ok (.cJr rd)
      else .ok (.cMv rd rs2)
    else if rs2 = 0 then
      if rd = 0 then .ok .cEbreak else .ok (.cJalr rd)
    else .ok (.cAdd rd rs2)
  | 6 => .ok (.cSwsp rs2 (immCSwsp c))
  | _ => .error .unlisted

/-- The row of R152 that a halfword matches, with the treatments of R153. -/
def decode16 (c : BitVec 16) : Except DecodeError Instr :=
  let f3 := (c.extractLsb' 13 3).toNat
  match (c.extractLsb' 0 2).toNat with
  | 0 => decodeQ0 f3 c
  | 1 => decodeQ1 f3 c
  | 2 => decodeQ2 f3 c
  | _ => .error .unlisted

/-- The configuration's part of decoding: the extension, then the registers (R163). -/
def checkConfig (cfg : Config) (i : Instr) : Except DecodeError Instr :=
  if i.extOk cfg then
    if i.regsOk cfg then .ok i else .error .rveRegister
  else .error .noExtension

/-- Bits [1:0] of the first halfword decide the length (R140). -/
def isShort (cfg : Config) (h : BitVec 16) : Bool :=
  cfg.rvc && (h.extractLsb' 0 2).toNat != 3

/-- Decode the 32-bit window that starts at the instruction; a short instruction is its low halfword. -/
def decodeWindow (cfg : Config) (w : BitVec 32) : Except DecodeError Instr :=
  let h : BitVec 16 := w.extractLsb' 0 16
  if isShort cfg h then
    match decode16 h with
    | .ok i => checkConfig cfg i
    | .error e => .error e
  else
    match decode32 w with
    | .ok i => checkConfig cfg i
    | .error e => .error e

/-- Little-endian value of two bytes (R101). -/
def half (b0 b1 : Byte) : BitVec 16 := BitVec.ofNat 16 (b0.toNat + 256 * b1.toNat)

/-- Little-endian value of four bytes (R101). -/
def word4 (b0 b1 b2 b3 : Byte) : Word :=
  BitVec.ofNat 32 (b0.toNat + 256 * (b1.toNat + 256 * (b2.toNat + 256 * b3.toNat)))

/-- Decode the instruction at the head of a list of bytes, with the bytes that follow it. -/
def decode (cfg : Config) : List Byte → Except DecodeError (Instr × List Byte)
  | b0 :: b1 :: rest =>
    if isShort cfg (half b0 b1) then
      match decodeWindow cfg (word4 b0 b1 0 0) with
      | .ok i => .ok (i, rest)
      | .error e => .error e
    else
      match rest with
      | b2 :: b3 :: rest' =>
        match decodeWindow cfg (word4 b0 b1 b2 b3) with
        | .ok i => .ok (i, rest')
        | .error e => .error e
      | _ => .error .tooShort
  | _ => .error .tooShort

/-- Length in bytes (R140). -/
def Instr.len (i : Instr) : Nat := if i.isCompressed then 2 else 4

/-! ## Encoding -/

/-- The six columns of Tables 98 to 100 (R141). -/
def pack32 (c31_25 : BitVec 7) (c24_20 c19_15 : BitVec 5) (c14_12 : BitVec 3) (c11_7 : BitVec 5) (c6_0 : BitVec 7) :
    BitVec 32 :=
  BitVec.ofNat 32 (c31_25.toNat * 2 ^ 25 + c24_20.toNat * 2 ^ 20 + c19_15.toNat * 2 ^ 15 + c14_12.toNat * 2 ^ 12
    + c11_7.toNat * 2 ^ 7 + c6_0.toNat)

def encR (f7 : BitVec 7) (f3 : BitVec 3) (op : BitVec 7) (rd rs1 rs2 : Reg) : BitVec 32 := pack32 f7 rs2 rs1 f3 rd op
def encI (f3 : BitVec 3) (op : BitVec 7) (rd rs1 : Reg) (imm : BitVec 12) : BitVec 32 :=
  pack32 (imm.extractLsb' 5 7) (imm.extractLsb' 0 5) rs1 f3 rd op
def encS (f3 : BitVec 3) (rs1 rs2 : Reg) (imm : BitVec 12) : BitVec 32 :=
  pack32 (imm.extractLsb' 5 7) rs2 rs1 f3 (imm.extractLsb' 0 5) 0x23
/-- `off` is B-imm[12:1]. -/
def encB (f3 : BitVec 3) (rs1 rs2 : Reg) (off : BitVec 12) : BitVec 32 :=
  pack32 (gather 7 off [(11, 1), (4, 6)]) rs2 rs1 f3 (gather 5 off [(0, 4), (10, 1)]) 0x63
def encU (op : BitVec 7) (rd : Reg) (imm : BitVec 20) : BitVec 32 :=
  pack32 (imm.extractLsb' 13 7) (imm.extractLsb' 8 5) (imm.extractLsb' 3 5) (imm.extractLsb' 0 3) rd op
/-- `off` is J-imm[20:1]. -/
def encJ (rd : Reg) (off : BitVec 20) : BitVec 32 :=
  pack32 (gather 7 off [(19, 1), (4, 6)]) (gather 5 off [(0, 4), (10, 1)]) (off.extractLsb' 14 5)
    (off.extractLsb' 11 3) rd 0x6F

/-- funct3, bits 12:2 and op of a 16-bit instruction (R150). -/
def pack16 (f3 : BitVec 3) (mid : BitVec 11) (op : BitVec 2) : BitVec 16 :=
  BitVec.ofNat 16 (f3.toNat * 2 ^ 13 + mid.toNat * 4 + op.toNat)

/-- CI, CR: bit 12, bits 11:7, bits 6:2. -/
def encCI (f3 : BitVec 3) (b12 : BitVec 1) (r : BitVec 5) (low : BitVec 5) (op : BitVec 2) : BitVec 16 :=
  pack16 f3 (BitVec.ofNat 11 (b12.toNat * 1024 + r.toNat * 32 + low.toNat)) op
def encCImm (f3 : BitVec 3) (r : Reg) (imm : BitVec 6) : BitVec 16 :=
  encCI f3 (imm.extractLsb' 5 1) r (imm.extractLsb' 0 5) 1
/-- Bits 12:10, a primed register, bits 6:5, a primed register. -/
def encCP (f3 : BitVec 3) (hi : BitVec 3) (r1 : RegC) (lo : BitVec 2) (r2 : RegC) (op : BitVec 2) : BitVec 16 :=
  pack16 f3 (BitVec.ofNat 11 (hi.toNat * 256 + r1.toNat * 32 + lo.toNat * 8 + r2.toNat)) op
/-- Bits 12:10, a primed register, bits 6:2. -/
def encCB (f3 : BitVec 3) (hi : BitVec 3) (r1 : RegC) (low : BitVec 5) : BitVec 16 :=
  pack16 f3 (BitVec.ofNat 11 (hi.toNat * 256 + r1.toNat * 32 + low.toNat)) 1
def encCJ (f3 : BitVec 3) (off : BitVec 11) : BitVec 16 :=
  pack16 f3 (gather 11 off [(10, 1), (3, 1), (7, 2), (9, 1), (5, 1), (6, 1), (0, 3), (4, 1)]) 1
def encCBr (f3 : BitVec 3) (r : RegC) (off : BitVec 8) : BitVec 16 :=
  encCB f3 (gather 3 off [(7, 1), (2, 2)]) r (gather 5 off [(5, 2), (0, 2), (4, 1)])

/-- The encoding of a 16-bit row; 0 for the others. -/
def encode16 : Instr → BitVec 16
  | .cIllegal => 0x0000
  | .cAddi4spn rd imm => pack16 0 (BitVec.ofNat 11 ((gather 8 imm [(2, 2), (4, 4), (0, 1), (1, 1)]).toNat * 8 + rd.toNat)) 0
  | .cLw rd rs1 imm => encCP 2 (imm.extractLsb' 1 3) rs1 (gather 2 imm [(0, 1), (4, 1)]) rd 0
  | .cSw rs1 rs2 imm => encCP 6 (imm.extractLsb' 1 3) rs1 (gather 2 imm [(0, 1), (4, 1)]) rs2 0
  | .cNop => 0x0001
  | .cAddi rd imm => encCImm 0 rd imm
  | .cJal off => encCJ 1 off
  | .cLi rd imm => encCImm 2 rd imm
  | .cAddi16sp imm => encCI 3 (imm.extractLsb' 5 1) 2 (gather 5 imm [(0, 1), (2, 1), (3, 2), (1, 1)]) 1
  | .cLui rd imm => encCImm 3 rd imm
  | .cSrli rd sh => encCB 4 0 rd sh
  | .cSrai rd sh => encCB 4 1 rd sh
  | .cAndi rd imm => encCB 4 (BitVec.ofNat 3 (imm.toNat / 32 * 4 + 2)) rd (imm.extractLsb' 0 5)
  | .cSub rd rs2 => encCP 4 3 rd 0 rs2 1
  | .cXor rd rs2 => encCP 4 3 rd 1 rs2 1
  | .cOr rd rs2 => encCP 4 3 rd 2 rs2 1
  | .cAnd rd rs2 => encCP 4 3 rd 3 rs2 1
  | .cJ off => encCJ 5 off
  | .cBeqz rs1 off => encCBr 6 rs1 off
  | .cBnez rs1 off => encCBr 7 rs1 off
  | .cSlli rd sh => encCI 0 0 rd sh 2
  | .cLwsp rd imm => encCI 2 (imm.extractLsb' 3 1) rd (gather 5 imm [(0, 3), (4, 2)]) 2
  | .cJr rs1 => encCI 4 0 rs1 0 2
  | .cMv rd rs2 => encCI 4 0 rd rs2 2
  | .cEbreak => 0x9002
  | .cJalr rs1 => encCI 4 1 rs1 0 2
  | .cAdd rd rs2 => encCI 4 1 rd rs2 2
  | .cSwsp rs2 imm => pack16 6 (BitVec.ofNat 11 ((gather 6 imm [(0, 4), (4, 2)]).toNat * 32 + rs2.toNat)) 2
  | _ => 0

/-- The encoding of a 32-bit row; 0 for the others. -/
def encode32 : Instr → BitVec 32
  | .lui rd imm => encU 0x37 rd imm
  | .auipc rd imm => encU 0x17 rd imm
  | .jal rd off => encJ rd off
  | .jalr rd rs1 imm => encI 0 0x67 rd rs1 imm
  | .beq rs1 rs2 off => encB 0 rs1 rs2 off
  | .bne rs1 rs2 off => encB 1 rs1 rs2 off
  | .blt rs1 rs2 off => encB 4 rs1 rs2 off
  | .bge rs1 rs2 off => encB 5 rs1 rs2 off
  | .bltu rs1 rs2 off => encB 6 rs1 rs2 off
  | .bgeu rs1 rs2 off => encB 7 rs1 rs2 off
  | .lb rd rs1 imm => encI 0 0x03 rd rs1 imm
  | .lh rd rs1 imm => encI 1 0x03 rd rs1 imm
  | .lw rd rs1 imm => encI 2 0x03 rd rs1 imm
  | .lbu rd rs1 imm => encI 4 0x03 rd rs1 imm
  | .lhu rd rs1 imm => encI 5 0x03 rd rs1 imm
  | .sb rs1 rs2 imm => encS 0 rs1 rs2 imm
  | .sh rs1 rs2 imm => encS 1 rs1 rs2 imm
  | .sw rs1 rs2 imm => encS 2 rs1 rs2 imm
  | .addi rd rs1 imm => encI 0 0x13 rd rs1 imm
  | .slti rd rs1 imm => encI 2 0x13 rd rs1 imm
  | .sltiu rd rs1 imm => encI 3 0x13 rd rs1 imm
  | .xori rd rs1 imm => encI 4 0x13 rd rs1 imm
  | .ori rd rs1 imm => encI 6 0x13 rd rs1 imm
  | .andi rd rs1 imm => encI 7 0x13 rd rs1 imm
  | .slli rd rs1 sh => encR 0 1 0x13 rd rs1 sh
  | .srli rd rs1 sh => encR 0 5 0x13 rd rs1 sh
  | .srai rd rs1 sh => encR 0x20 5 0x13 rd rs1 sh
  | .add rd rs1 rs2 => encR 0 0 0x33 rd rs1 rs2
  | .sub rd rs1 rs2 => encR 0x20 0 0x33 rd rs1 rs2
  | .sll rd rs1 rs2 => encR 0 1 0x33 rd rs1 rs2
  | .slt rd rs1 rs2 => encR 0 2 0x33 rd rs1 rs2
  | .sltu rd rs1 rs2 => encR 0 3 0x33 rd rs1 rs2
  | .xor rd rs1 rs2 => encR 0 4 0x33 rd rs1 rs2
  | .srl rd rs1 rs2 => encR 0 5 0x33 rd rs1 rs2
  | .sra rd rs1 rs2 => encR 0x20 5 0x33 rd rs1 rs2
  | .or rd rs1 rs2 => encR 0 6 0x33 rd rs1 rs2
  | .and rd rs1 rs2 => encR 0 7 0x33 rd rs1 rs2
  | .fence pred succ => encI 0 0x0F 0 0 (BitVec.ofNat 12 (pred.toNat * 16 + succ.toNat))
  | .fenceI => 0x0000100F
  | .ecall => 0x00000073
  | .ebreak => 0x00100073
  | .mret => 0x30200073
  | .wfi => 0x10500073
  | .csrrw rd rs1 csr => encI 1 0x73 rd rs1 csr
  | .csrrs rd rs1 csr => encI 2 0x73 rd rs1 csr
  | .csrrc rd rs1 csr => encI 3 0x73 rd rs1 csr
  | .csrrwi rd z csr => encI 5 0x73 rd z csr
  | .csrrsi rd z csr => encI 6 0x73 rd z csr
  | .csrrci rd z csr => encI 7 0x73 rd z csr
  | .mul rd rs1 rs2 => encR 1 0 0x33 rd rs1 rs2
  | .mulh rd rs1 rs2 => encR 1 1 0x33 rd rs1 rs2
  | .mulhsu rd rs1 rs2 => encR 1 2 0x33 rd rs1 rs2
  | .mulhu rd rs1 rs2 => encR 1 3 0x33 rd rs1 rs2
  | .div rd rs1 rs2 => encR 1 4 0x33 rd rs1 rs2
  | .divu rd rs1 rs2 => encR 1 5 0x33 rd rs1 rs2
  | .rem rd rs1 rs2 => encR 1 6 0x33 rd rs1 rs2
  | .remu rd rs1 rs2 => encR 1 7 0x33 rd rs1 rs2
  | _ => 0

/-- The instruction bits, a 16-bit instruction zero-extended: what MTVAL receives (R423, D25). -/
def Instr.bits (i : Instr) : Word :=
  if i.isCompressed then (encode16 i).setWidth 32 else encode32 i

/-- Byte `k` of a word, little-endian (R101). -/
def byteOf (w : Word) (k : Nat) : Byte := w.extractLsb' (8 * k) 8

/-- The instruction's bytes as they stand in memory (R101). -/
def encode (i : Instr) : List Byte :=
  if i.isCompressed then [byteOf i.bits 0, byteOf i.bits 1]
  else [byteOf i.bits 0, byteOf i.bits 1, byteOf i.bits 2, byteOf i.bits 3]

/-- The instruction of the reset configuration whose bits are `w`, bits above `nbits` zero. -/
def decodeTableWord (nbits w : Nat) : Option Instr :=
  let v : Word := BitVec.ofNat 32 (w % 2 ^ nbits)
  match decode Config.rv32imcMax [byteOf v 0, byteOf v 1, byteOf v 2, byteOf v 3] with
  | .ok (i, _) => some i
  | .error _ => none

end Sys2Proof
end

