-- ==== Sys2Proof/Machine/Operands.lean ====
section
/-! DEFINITION. Operand forms: every immediate extended as its format says (R143, R144, R151) and the effective
addresses and targets made from them. -/
namespace Sys2Proof.Machine

/-- I-imm and S-imm (R143). -/
def sext12 (imm : BitVec 12) : Word := imm.signExtend 32
/-- U-imm (R143). -/
def uimm (imm : BitVec 20) : Word := BitVec.ofNat 32 (imm.toNat * 2 ^ 12)
/-- B-imm from imm[12:1] (R143). -/
def bOffset (off : BitVec 12) : Word := BitVec.ofInt 32 (off.toInt * 2)
/-- J-imm from imm[20:1] (R143). -/
def jOffset (off : BitVec 20) : Word := BitVec.ofInt 32 (off.toInt * 2)
/-- imm[5:0] of C.ADDI, C.LI, C.ANDI (R151). -/
def sext6 (imm : BitVec 6) : Word := imm.signExtend 32
/-- off of C.J and C.JAL (R151). -/
def cjOffset (off : BitVec 11) : Word := BitVec.ofInt 32 (off.toInt * 2)
/-- off of C.BEQZ and C.BNEZ (R151). -/
def cbOffset (off : BitVec 8) : Word := BitVec.ofInt 32 (off.toInt * 2)
/-- nzuimm of C.ADDI4SPN (R151). -/
def imm4spn (imm : BitVec 8) : Word := BitVec.ofNat 32 (imm.toNat * 4)
/-- nzimm of C.ADDI16SP (R151). -/
def imm16sp (imm : BitVec 6) : Word := BitVec.ofInt 32 (imm.toInt * 16)
/-- nzimm of C.LUI (R151). -/
def immClui (imm : BitVec 6) : Word := BitVec.ofInt 32 (imm.toInt * 4096)
/-- uimm of C.LW and C.SW (R151). -/
def immClw (imm : BitVec 5) : Word := BitVec.ofNat 32 (imm.toNat * 4)
/-- uimm of C.LWSP and C.SWSP (R151). -/
def immCsp (imm : BitVec 6) : Word := BitVec.ofNat 32 (imm.toNat * 4)
/-- zimm of the CSR immediate forms (R144). -/
def zext5 (z : BitVec 5) : Word := z.setWidth 32

/-- The stack pointer x2 (R23). -/
def spReg : Reg := 2
/-- The link register x1 of C.JAL and C.JALR (R23). -/
def raReg : Reg := 1

/-- Effective address of the I and S formats (R250). -/
def State.effAddr (s : State) (rs1 : Reg) (imm : BitVec 12) : Word := s.getReg rs1 + sext12 imm
/-- Effective address of C.LW and C.SW (R303, R304). -/
def State.effAddrC (s : State) (rs1 : RegC) (imm : BitVec 5) : Word := s.getReg (regC rs1) + immClw imm
/-- Effective address of C.LWSP and C.SWSP (R322, R328). -/
def State.effAddrSp (s : State) (imm : BitVec 6) : Word := s.getReg spReg + immCsp imm

end Sys2Proof.Machine
end

