-- ==== Sys2Proof/Machine/Trigger.lean ====
section
/-! DEFINITION. The Trigger Debug Unit (spec/62_debug.md section 10; logs 18, 19). -/
namespace Sys2Proof.Machine

/-- TDATA1 bits 31:28 (R571). -/
def Trigger.type (t : Trigger) : Nat := (t.tdata1.extractLsb' 28 4).toNat
def Trigger.isMcontrol (t : Trigger) : Bool := t.type == 2
def Trigger.isIcount (t : Trigger) : Bool := t.type == 3
def Trigger.dmode (t : Trigger) : Bool := t.tdata1.getLsbD 27
/-- MCONTROL fields (R572). -/
def Trigger.load (t : Trigger) : Bool := t.tdata1.getLsbD 0
def Trigger.store (t : Trigger) : Bool := t.tdata1.getLsbD 1
def Trigger.execute (t : Trigger) : Bool := t.tdata1.getLsbD 2
def Trigger.mcontrolM (t : Trigger) : Bool := t.tdata1.getLsbD 6
def Trigger.chain (t : Trigger) : Bool := t.isMcontrol && t.tdata1.getLsbD 11
/-- ICOUNT fields (R573). -/
def Trigger.icountM (t : Trigger) : Bool := t.tdata1.getLsbD 9
def Trigger.count (t : Trigger) : Nat := (t.tdata1.extractLsb' 10 14).toNat
/-- action = 1: enter Debug Mode (R572, R573). -/
def Trigger.toDebug (t : Trigger) : Bool :=
  if t.isMcontrol then t.tdata1.getLsbD 12 else t.tdata1.getLsbD 0

/-- The hardware sets `hit` (R576, R579). -/
def Trigger.setHit (t : Trigger) : Trigger :=
  { t with tdata1 := t.tdata1 ||| (if t.isMcontrol then 0x00100000 else 0x01000000) }

/-! ## Registers -/

/-- The selected trigger, if any (R570). -/
def selected (s : State) : Option Trigger := s.triggers[s.tselect.toNat]?

/-- TDATA1 (R571: type 0 where there is no trigger). -/
def readTdata1 (s : State) : Word :=
  match selected s with
  | some t => t.tdata1
  | none => 0

/-- TDATA2 (R574); with no trigger selected it reads 0, which is the model's choice (log 19). -/
def readTdata2 (s : State) : Word :=
  match selected s with
  | some t => t.tdata2
  | none => 0

/-- TINFO (R575). -/
def readTinfo (s : State) : Word :=
  match selected s with
  | some t => if t.isMcontrol then 0x4 else if t.isIcount then 0x8 else 0x1
  | none => 0x1

/-- TSELECT keeps its value when the index is not supported (R570, D46). The whole word is the index: one whose read-only
upper bits are set is not supported, which is the model's choice (log 19). -/
def writeTselect (s : State) (v : Word) : State :=
  if v.toNat < s.triggers.length then { s with tselect := v } else s

/-- `t` replaces the selected trigger. -/
def putSelected (s : State) (t : Trigger) : State :=
  { s with triggers := s.triggers.set s.tselect.toNat t }

/-- dmode after a write: only Debug Mode changes it (R571). -/
def newDmode (s : State) (t : Trigger) (v : Word) : Bool := if s.debugMode then v.getLsbD 27 else t.dmode

/-- A bit at a place of a word. -/
def bitAt (b : Bool) (k : Nat) : Word := if b then BitVec.ofNat 32 (2 ^ k) else 0

/-- The trigger before the selected one is an MCONTROL with dmode 0 and chain 1 (R578). -/
def prevBlocks (s : State) : Bool :=
  s.tselect.toNat != 0 &&
    (match s.triggers[s.tselect.toNat - 1]? with
    | some p => !p.dmode && p.chain
    | none => false)

/-- dmode of the trigger after the selected one (R578). -/
def nextDmode (s : State) : Bool :=
  match s.triggers[s.tselect.toNat + 1]? with
  | some n => n.dmode
  | none => false

/-- The trigger after the selected one is an MCONTROL trigger (D47). -/
def nextIsMcontrol (s : State) : Bool :=
  match s.triggers[s.tselect.toNat + 1]? with
  | some n => n.isMcontrol
  | none => false

/-- chain as it is stored: zeroed where dmode becomes 0 before a trigger with dmode 1 (R578). -/
def storedChain (s : State) (dmode : Bool) (v : Word) : Bool := v.getLsbD 11 && (dmode || !nextDmode s)

/-- A value written to MCONTROL that the source reserves, or chain on the last MCONTROL trigger (D47). -/
def mcontrolReserved (s : State) (dmode : Bool) (v : Word) : Bool :=
  v.extractLsb' 7 4 != 0#4 || decide (1 < (v.extractLsb' 12 4).toNat) || (v.getLsbD 12 && !dmode)
    || (storedChain s dmode v && !nextIsMcontrol s)

/-- MCONTROL as it is stored (R572). -/
def mcontrolOf (chain dmode : Bool) (v : Word) : Word :=
  0x20000000 ||| bitAt dmode 27 ||| (v &&& 0x00101047) ||| bitAt chain 11

/-- Write of MCONTROL (R571, R572, R578, D47). -/
def writeMcontrol (s : State) (t : Trigger) (v : Word) : Result :=
  if newDmode s t v && prevBlocks s then .next s
  else if mcontrolReserved s (newDmode s t v) v then .refused .triggerReserved
  else
    .next (putSelected s { t with
      tdata1 := mcontrolOf (storedChain s (newDmode s t v) v) (newDmode s t v) v
      fired := false })

/-- Write of ICOUNT (R573, D47, D48). -/
def writeIcount (s : State) (t : Trigger) (v : Word) : Result :=
  let dmode := newDmode s t v
  let action := (v.extractLsb' 0 6).toNat
  if 1 < action ∨ (action = 1 ∧ dmode = false) then .refused .triggerReserved
  else
    .next (putSelected s { t with
      tdata1 := 0x30000000 ||| bitAt dmode 27 ||| (v &&& 0x01FFFE01)
      fired := false })

/-- Write of TDATA1 (R571): ignored outside Debug Mode where dmode is set. -/
def writeTdata1 (s : State) (v : Word) : Result :=
  match selected s with
  | none => .next s
  | some t =>
    if t.dmode && !s.debugMode then .next s
    else if t.isMcontrol then writeMcontrol s t v
    else if t.isIcount then writeIcount s t v
    else .next s

/-- Write of TDATA2 (R571, R574). -/
def writeTdata2 (s : State) (v : Word) : State :=
  match selected s with
  | none => s
  | some t => if t.dmode && !s.debugMode then s else putSelected s { t with tdata2 := v }

/-! ## Matching and firing (R576 to R579) -/

/-- What an instruction does to data memory, for the load and store triggers (R576). -/
inductive DataAccess where
  | none
  | load (addr : Word)
  | store (addr : Word)
  deriving DecidableEq, Repr

/-- The load or store an instruction makes, with its effective address. -/
def dataAccess (s : State) : Instr → DataAccess
  | .lb _ rs1 imm | .lh _ rs1 imm | .lw _ rs1 imm | .lbu _ rs1 imm | .lhu _ rs1 imm => .load (s.effAddr rs1 imm)
  | .sb rs1 _ imm | .sh rs1 _ imm | .sw rs1 _ imm => .store (s.effAddr rs1 imm)
  | .cLw _ rs1 imm => .load (s.effAddrC rs1 imm)
  | .cLwsp _ imm => .load (s.effAddrSp imm)
  | .cSw rs1 _ imm => .store (s.effAddrC rs1 imm)
  | .cSwsp _ imm => .store (s.effAddrSp imm)
  | _ => .none

/-- The trigger matches by the load or store (R576). -/
def Trigger.dataMatch (t : Trigger) : DataAccess → Bool
  | .none => false
  | .load a => t.load && a == t.tdata2
  | .store a => t.store && a == t.tdata2

/-- The trigger's own condition for the instruction at `pc` (R576). -/
def Trigger.condition (t : Trigger) (pc : Word) (d : DataAccess) : Bool :=
  t.isMcontrol && t.mcontrolM && ((t.execute && pc == t.tdata2) || t.dataMatch d)

/-- Which triggers match: one chained before does not, the next cannot (R578). -/
def matchChain (pc : Word) (d : DataAccess) : Bool → List Trigger → List Bool
  | _, [] => []
  | allowed, t :: ts =>
    let m := allowed && t.condition pc d
    m :: matchChain pc d (if t.chain then m else true) ts

/-- `hit` of every trigger that matches (R576). -/
def setHits (ts : List Trigger) (ms : List Bool) : List Trigger :=
  List.zipWith (fun t m => if m then t.setHit else t) ts ms

/-- The triggers that fire: they match and are not chained to the next (R577, R578). -/
def firing (ts : List Trigger) (ms : List Bool) : List Trigger :=
  ((ts.zip ms).filter (fun tm => tm.2 && !tm.1.chain)).map (·.1)

/-- MTVAL of a trigger's breakpoint: zero, or the address `a` it is about (R577, R579, D8; log 27). -/
def triggerTval (s : State) (a : Word) : Word := if s.cfg.mtvalEbreakAddr then a else 0

/-- The breakpoint exception of a trigger about the address `a` (R577, R579). -/
def triggerTrap (s : State) (a : Word) : State := s.takeTrap false Exc.breakpoint.code (triggerTval s a) s.pc

/-- The address that the breakpoint of the firing triggers `f :: fs` is about: the pc where one of them fires by execution,
since that breakpoint comes before those of the load or store, else the data address, which is TDATA2 of every one of them
(R411 items 1 and 5, R576, D10). -/
def matchedAddress (pc : Word) (f : Trigger) (fs : List Trigger) : Word :=
  if (f :: fs).any (fun t => t.execute && pc == t.tdata2) then pc else f.tdata2

/-- The action of firing triggers: Debug Mode entry over the breakpoint exception (R577, D50); `s` already has the
hits. `none` when nothing fires. -/
def fireAction (s : State) (fs : List Trigger) : Option State :=
  match fs with
  | [] => none
  | f :: fs =>
    if (f :: fs).any Trigger.toDebug then some (s.enterDebug causeTrigger s.pc)
    else some (triggerTrap s (matchedAddress s.pc f fs))

/-- The triggers looked at once for one instruction, before it executes, with its pc and its data access: the state with
the hits, and, if some trigger fires, the state after its action instead of the instruction. -/
def checkTriggers (s : State) (d : DataAccess) : State × Option State :=
  let ms := matchChain s.pc d true s.triggers
  let s' := { s with triggers := setHits s.triggers ms }
  (s', fireAction s' (firing s.triggers ms))

/-- Some trigger with the Debug Mode action fires on the instruction at pc, whose data access is `d` (R540: cause 2 has
the highest priority). -/
def debugTriggerAt (s : State) (d : DataAccess) : Bool :=
  (firing s.triggers (matchChain s.pc d true s.triggers)).any Trigger.toDebug

/-- ICOUNT is counting: outside Debug Mode, m = 1 (R579). -/
def icountActive (s : State) : Option Trigger := s.triggers.find? (fun t => t.isIcount && t.icountM)

/-- The ICOUNT trigger `t` becomes fired with `hit` set and a count the source does not give (R579; log 18). -/
def markFired (n : Nat) (t : Trigger) : Trigger :=
  if t.isIcount then
    { t with
      tdata1 := (t.tdata1 &&& 0xFF0003FF) ||| 0x01000000 ||| BitVec.ofNat 32 ((Config.icountAfter n).toNat * 1024)
      fired := true }
  else t

/-- After one instruction completed or exception taken with the ICOUNT trigger `t` active before it (R579, D48). An
instruction that itself rewrites the trigger is counted by the count and action from before it, and its new value is
marked fired: the model's choice (log 18). A WFI that goes to sleep counts as completed: ICOUNT fires at once, and its
breakpoint trap or entry to Debug Mode ends the sleep. R274 and R452 name no trigger among what wakes the hart, and R579 does
not say whether the action waits for the wake: the model's choice (log 18). -/
def icountStep (t : Trigger) (s : State) : Result :=
  if t.fired then
    if Config.icountRefires s.freeCtr then .refused .icountUnsupported else .next s
  else if t.count ≠ 1 then .refused .icountUnsupported
  else
    let s' := { s with triggers := s.triggers.map (markFired s.freeCtr) }
    if t.toDebug then .next (s'.enterDebug causeTrigger s'.pc)
    else .next (triggerTrap s' s'.pc)

end Sys2Proof.Machine
end

