-- ==== Sys2Proof/Machine/Csr.lean ====
section
/-! DEFINITION. The CSR map: which CSRs exist, what a read returns and what a write changes (spec/10_state.md
section 4, spec/43_system_csr.md R280). -/
namespace Sys2Proof.Machine

/-! ## Interrupt pending (R42) -/

/-- MTIP (R441, D15). -/
def State.mtip (s : State) : Bool := decide (s.timer.mtimecmp.toNat ≤ s.timer.mtime.toNat)

/-- MEIP: the IPIC's request, or pin `ext_irq` without the IPIC (R42, R431, R476). -/
def State.meip (s : State) : Bool := if s.cfg.ipicEn then s.ipic.request else s.pins.extIrq

/-- MSIP (R430). -/
def State.msip (s : State) : Bool := s.pins.softIrq

/-- MIP as a read shows it (R42). -/
def State.mip (s : State) : Word := bitAt s.msip 3 ||| bitAt s.mtip 7 ||| bitAt s.meip 11

/-- `(MIP & MIE) != 0` (R274, D12). -/
def State.wakes (s : State) : Bool :=
  (s.csr.mie.getLsbD 3 && s.msip) || (s.csr.mie.getLsbD 7 && s.mtip) || (s.csr.mie.getLsbD 11 && s.meip)

/-! ## The map (R30) -/

/-- The CSR exists for this instruction or command (R30, R46, D13). -/
def csrExists (s : State) (a : BitVec 12) : Bool :=
  match a.toNat with
  | 0xC00 | 0xC02 | 0xC80 | 0xC82 | 0xB00 | 0xB02 | 0xB80 | 0xB82 => hasCounters s.cfg
  | 0xC01 | 0xC81 | 0xF11 | 0xF12 | 0xF13 | 0xF14 => true
  | 0x300 | 0x301 | 0x304 | 0x305 | 0x340 | 0x341 | 0x342 | 0x343 | 0x344 => true
  | 0x7A0 | 0x7A1 | 0x7A2 | 0x7A4 => s.cfg.dbgEn && s.cfg.tduEn
  | 0x7B0 | 0x7B1 | 0x7B2 => s.cfg.dbgEn && s.debugMode
  | 0x7E0 => hasMcounten s.cfg
  | 0xBF0 | 0xBF1 | 0xBF2 | 0xBF3 | 0xBF4 | 0xBF5 | 0xBF6 | 0xBF7 => s.cfg.ipicEn
  | _ => false

/-- Address bits [11:10] = 11 (R28, R29). -/
def csrReadOnly (a : BitVec 12) : Bool := a.extractLsb' 10 2 == 3

/-- 0xBF0 to 0xBF7 (R287). -/
def isIpicCsr (a : BitVec 12) : Bool := decide (0xBF0 ≤ a.toNat ∧ a.toNat ≤ 0xBF7)

/-- MISA (R35). -/
def misa (cfg : Config) : Word :=
  0x40000000 ||| bitAt cfg.rvc 2 ||| bitAt cfg.rve 4 ||| bitAt (!cfg.rve) 8 ||| bitAt cfg.rvm 12
    ||| bitAt cfg.misaRvx 23

/-- `CSR[a]` of an existing CSR (R31 to R46). -/
def csrRead (s : State) (a : BitVec 12) : Word :=
  match a.toNat with
  | 0xC00 | 0xB00 => lo64 s.csr.mcycle
  | 0xC80 | 0xB80 => hi64 s.csr.mcycle
  | 0xC01 => lo64 s.timer.mtime
  | 0xC81 => hi64 s.timer.mtime
  | 0xC02 | 0xB02 => lo64 s.csr.minstret
  | 0xC82 | 0xB82 => hi64 s.csr.minstret
  | 0xF11 => s.cfg.mvendorid
  | 0xF12 => 0x8
  | 0xF13 => 0x22011200
  | 0xF14 => s.cfg.mhartid
  | 0x300 => s.csr.mstatus
  | 0x301 => misa s.cfg
  | 0x304 => s.csr.mie
  | 0x305 => s.csr.mtvec
  | 0x340 => s.csr.mscratch
  | 0x341 => s.csr.mepc
  | 0x342 => s.csr.mcause
  | 0x343 => s.csr.mtval
  | 0x344 => s.mip
  | 0x7A0 => s.tselect
  | 0x7A1 => readTdata1 s
  | 0x7A2 => readTdata2 s
  | 0x7A4 => readTinfo s
  | 0x7B0 => s.dcsr
  | 0x7B1 => s.dpc
  | 0x7B2 => s.dm.data0
  | 0x7E0 => s.csr.mcounten
  | 0xBF0 | 0xBF1 | 0xBF2 | 0xBF3 | 0xBF4 | 0xBF5 | 0xBF6 | 0xBF7 => s.ipic.read (a.toNat - 0xBF0)
  | _ => 0

/-! ## Writes -/

/-- MSTATUS keeps MIE and MPIE of the written value; MPP reads 11 (R34). -/
def mstatusOf (v : Word) : Word := (v &&& 0x88) ||| 0x1800

/-- The writable BASE bits (R37, D16). -/
def mtvecBaseMask (cfg : Config) : Word := BitVec.ofNat 32 (cfg.mtvecBaseWrMask.toNat * 64)

/-- MTVEC after a write whose MODE is 0 or 1 (R37). -/
def mtvecOf (cfg : Config) (v : Word) : Word :=
  (v &&& mtvecBaseMask cfg) ||| (cfg.mtvecBase &&& ~~~(mtvecBaseMask cfg) &&& 0xFFFFFFC0)
    ||| (if cfg.mtvecModeEn then v &&& 0x1 else 0)

/-- Write of MTVEC; MODE 2 or 3 is refused where MODE is writable (D38). -/
def writeMtvec (s : State) (v : Word) : Result :=
  if s.cfg.mtvecModeEn && v.getLsbD 1 then .refused .mtvecMode
  else .next { s with csr := { s.csr with mtvec := mtvecOf s.cfg v } }

/-- DCSR: only step, stepie and ebreakm are writable (R558). -/
def dcsrOf (old v : Word) : Word := (v &&& 0x8804) ||| (old &&& 0x1C0) ||| 0x40000003

/-- `CSR[a] <- v` of an existing CSR, by the register's own rules (R29, R34 to R46). -/
def csrWrite (s : State) (a : BitVec 12) (v : Word) : Result :=
  match a.toNat with
  | 0x300 => .next { s with csr := { s.csr with mstatus := mstatusOf v } }
  | 0x304 => .next { s with csr := { s.csr with mie := v &&& 0x888 } }
  | 0x305 => writeMtvec s v
  | 0x340 => .next { s with csr := { s.csr with mscratch := v } }
  | 0x341 => .next { s with csr := { s.csr with mepc := mepcBits s.cfg v } }
  | 0x342 => .next { s with csr := { s.csr with mcause := v &&& 0x8000000F } }
  | 0x343 => .next { s with csr := { s.csr with mtval := v } }
  | 0xB00 => .next { s with csr := { s.csr with mcycle := setLo64 s.csr.mcycle v } }
  | 0xB80 => .next { s with csr := { s.csr with mcycle := setHi64 s.csr.mcycle v } }
  | 0xB02 => .next { s with csr := { s.csr with minstret := setLo64 s.csr.minstret v } }
  | 0xB82 => .next { s with csr := { s.csr with minstret := setHi64 s.csr.minstret v } }
  | 0x7A0 => .next (writeTselect s v)
  | 0x7A1 => writeTdata1 s v
  | 0x7A2 => .next (writeTdata2 s v)
  | 0x7B0 => .next { s with dcsr := dcsrOf s.dcsr v }
  | 0x7B1 => .next { s with dpc := v }
  | 0x7B2 => .next { s with dm := { s.dm with data0 := v } }
  | 0x7E0 => .next { s with csr := { s.csr with mcounten := v &&& 0x5 } }
  | 0xBF0 | 0xBF1 | 0xBF2 | 0xBF3 | 0xBF4 | 0xBF5 | 0xBF6 | 0xBF7 =>
    .next { s with ipic := s.ipic.write (a.toNat - 0xBF0) v }
  | _ => .next s

/-! ## The six CSR instructions (R280) -/

/-- MINSTRET or MINSTRETH as a storage address. -/
def isMinstret (a : BitVec 12) : Bool := a.toNat == 0xB02 || a.toNat == 0xB82

/-- An instruction that writes MINSTRET[H] may or may not count itself (R44, D22; log 9). -/
def State.countCsr (s0 s : State) (a : BitVec 12) (writes : Bool) : State :=
  if writes && isMinstret a then
    s.countInstr (s0.countsInstret && Config.minstretCountsWrite s0.freeCtr)
  else s.countInstr s0.countsInstret

/-- The checks and actions of R280 in their order: `instr` are the instruction bits, `writes` whether a write is
attempted, `plainWrite` whether the instruction is CSRRW or CSRRWI, `new` the value it writes. -/
def csrInstr (s : State) (instr : Word) (rd : Reg) (a : BitVec 12) (writes plainWrite : Bool) (new : Word → Word) :
    Result :=
  if !csrExists s a then raise s .illegal instr
  else if writes && csrReadOnly a then raise s .illegal instr
  else if writes && isIpicCsr a && !plainWrite then .refused .ipicSetClear
  else
    let old := csrRead s a
    let written : Result := if writes then csrWrite s a (new old) else .next s
    match written with
    | .next s' => .next ((State.countCsr s s' a writes).setReg rd old |>.advance 4)
    | .fault f => .fault f
    | .refused r => .refused r

end Sys2Proof.Machine
end

