-- ==== Sys2Proof/Machine/Clock.lean ====
section
/-! DEFINITION. Resets and the clock: what advances besides instructions (spec/60_exceptions.md section 6,
spec/61_ipic.md R475, spec/70_reset_and_hazards.md sections 1 and 2). -/
namespace Sys2Proof.Machine

/-! ## The reset signals (R511, R643) -/

def State.sysReset (s : State) : Bool :=
  s.pins.pwrup || s.pins.rst || s.dm.ndmreset || s.scu.control.getLsbD 0
def State.coreReset (s : State) : Bool := s.sysReset || s.pins.cpu || s.scu.control.getLsbD 1
def State.dmReset (s : State) : Bool := s.pins.pwrup || (s.scu.control.getLsbD 0 && s.scu.mode.getLsbD 0)
def State.hduReset (s : State) : Bool := s.pins.pwrup || (s.coreReset && !s.scu.mode.getLsbD 1)
def State.tapReset (s : State) : Bool := s.pins.pwrup || s.pins.trst

/-- SCU STATUS (R514). -/
def State.scuStatus (s : State) : BitVec 4 :=
  BitVec.ofNat 4 (b2n s.sysReset + 2 * b2n s.coreReset + 4 * b2n s.dmReset + 8 * b2n s.hduReset)

/-- The general registers after a hart reset (R652, D18; log 17). -/
def resetRegs (cfg : Config) (n : Nat) : Vector Word 32 :=
  if cfg.mprfRstEn then Vector.replicate 32 0 else Vector.ofFn (fun i : Fin 32 => Config.resetReg n i.val)

/-- The hart, the IPIC and the timer take their reset values; a bus transaction in flight is lost; havereset is set (R531,
R650, R651). -/
def State.resetHart (s : State) : State :=
  { s with
    regs := resetRegs s.cfg s.freeCtr
    pc := s.cfg.rstVector
    seqWrap := false
    sleeping := false
    debugMode := false
    waiting := false
    pb := .none
    stale := []
    csr := Csrs.reset s.cfg
    timer := Timer.reset
    ipic := s.cfg.ipicReset
    dm := { s.dm with havereset := true } }

/-- havereset is cleared while dmactive is low (R522, R531; log 22). -/
def State.clearHavereset (s : State) : State :=
  { s with dm := { s.dm with havereset := s.dm.havereset && s.dm.dmactive } }

/-- The debug units inside the hart take their reset values, DSCRATCH0 in the cell it shares with DATA0 (R60, R561, R562,
R581, R650; log 16). -/
def State.resetHdu (s : State) : State :=
  { s with
    dcsr := 0x40000003
    dpc := 0
    tselect := 0
    triggers := Trigger.resetAll s.cfg
    dm := { s.dm with data0 := 0 } }

/-- SCU: reset by Power-Up, with what SCU_ACCESS captures next, which no other reset touches (R507; the model's choice,
log 25); otherwise the sticky bits collect the asserted resets (R512, R515). -/
def State.settleScu (s : State) : State :=
  if s.pins.pwrup then { s with scu := Scu.reset }
  else { s with scu := { s.scu with sticky := s.scu.sticky ||| s.scuStatus } }

/-- Every asserted reset acts on the state it reaches (R650; log 24). A hart reset sets havereset, as every column of R650 but
the last says, and a Debug Module whose dmactive is low, as it is after Power-Up, clears it (R531; log 22). -/
def State.applyResets (s : State) : State :=
  let s1 := s.settleScu
  let s2 := if s1.tapReset then { s1 with tap := Tap.reset } else s1
  let s3 := if s2.dmReset then { s2 with dm := Dm.reset } else s2
  let s4 := if s.coreReset then s3.resetHart.clearHavereset else s3
  if s.hduReset then s4.resetHdu else s4

/-- After an outside event on the state `before`: the resets act; a hart that leaves reset with the halt request set
enters Debug Mode before its first instruction (R543, R650). -/
def State.settle (before s : State) : State :=
  let s' := s.applyResets
  if before.coreReset && !s'.coreReset && s'.cfg.dbgEn && s'.dm.haltreq then s'.enterDebug causeHaltreq s'.pc else s'

/-! ## The clock -/

/-- The timer after `n` ticks of its clock (R440, R443). Of those that fall in the time in which a write settles any number, as
`free` gives it, makes MTIME tick; of the others one in DIV+1 does (log 8). -/
def Timer.advance (t : Timer) (n free : Nat) : Timer :=
  let settling := min n t.settle
  let total := t.prescaler + (n - settling)
  let period := t.div.toNat + 1
  { t with
    mtime := t.mtime + BitVec.ofNat 64 (free % (settling + 1) + total / period)
    prescaler := total % period
    settle := t.settle - settling }

/-- The timer in one step: `clk` core clocks or `rtc` real-time edges by CLKSRC, nothing while disabled (R51, R440). -/
def Timer.tick (t : Timer) (clk rtc free : Nat) : Timer :=
  if t.ctrl.getLsbD 0 then t.advance (if t.ctrl.getLsbD 1 then rtc else clk) free else t

/-- A sleeping hart wakes as soon as an enabled interrupt is pending or the debugger requests a halt (R274, R452). -/
def State.wakeUp (s : State) : State := { s with sleeping := s.sleeping && !s.wakes && !(s.cfg.dbgEn && s.dm.haltreq) }

/-- Time passes at the end of a step: MCYCLE, the timer and the IPIC advance, unless Core Reset holds them, and a sleeping
hart wakes where it must (R43, R440, R452, R475, R551; logs 7, 23, 29). -/
def State.tick (s : State) : State :=
  if s.coreReset then { s with freeCtr := s.freeCtr + 1 }
  else
    State.wakeUp { s with
      csr := { s.csr with
        mcycle := if s.countsCycles then s.csr.mcycle + BitVec.ofNat 64 (Config.clocks s.freeCtr) else s.csr.mcycle }
      timer := s.timer.tick (Config.clocks s.freeCtr) (Config.rtcEdges s.freeCtr) (Config.settlingTicks s.freeCtr)
      ipic := if s.cfg.ipicEn then s.ipic.clock s.pins.irqLines else s.ipic
      freeCtr := s.freeCtr + 1 }

/-- `tick` after a step that goes on. -/
def tickResult : Result → Result
  | .next s => .next s.tick
  | .fault f => .fault f
  | .refused r => .refused r

end Sys2Proof.Machine
end

