-- ==== Sys2Proof/Machine/Flags.lean ====
section
/-! DEFINITION. The hart has no condition codes (R27): a comparison writes a register or decides a branch. -/
namespace Sys2Proof.Machine

/-- Signed less than (R215). -/
def ltSigned (a b : Word) : Bool := decide (a.toInt < b.toInt)
/-- Unsigned less than (R216). -/
def ltUnsigned (a b : Word) : Bool := decide (a.toNat < b.toNat)
/-- The 0 or 1 the SLT family writes. -/
def boolWord (c : Bool) : Word := if c then 1 else 0

end Sys2Proof.Machine
end

