-- ==== Sys2Proof/Machine/Computational.lean ====
section
/-! DEFINITION. RV32I computational instructions (spec/40_rv32i_computational.md): one meaning per instruction over
`writeBack`. -/
namespace Sys2Proof.Machine

/-- The result goes to `rd` and the instruction of `len` bytes retires (R200). -/
def writeBack (s : State) (rd : Reg) (v : Word) (len : Nat) : Result := .next ((s.setReg rd v).retire len)

/-- Shift left, logical right, arithmetic right, by the low five bits of the amount (R209 to R211, R214, R218, R219). -/
def shiftLeft (a : Word) (n : Nat) : Word := a <<< (n % 32)
def shiftRightL (a : Word) (n : Nat) : Word := a >>> (n % 32)
def shiftRightA (a : Word) (n : Nat) : Word := a.sshiftRight (n % 32)

/-- LUI (R201). -/
def execLui (rd : Reg) (imm : BitVec 20) (s : State) : Result :=
  writeBack s rd (uimm imm) 4

/-- AUIPC (R202); it reads pc, which the Program Buffer does not have (R539, D43). -/
def execAuipc (rd : Reg) (imm : BitVec 20) (s : State) : Result :=
  if s.debugMode then .refused .pcInProgramBuffer else writeBack s rd (s.pc + uimm imm) 4

/-- ADDI (R203). -/
def execAddi (rd rs1 : Reg) (imm : BitVec 12) (s : State) : Result :=
  writeBack s rd (s.getReg rs1 + sext12 imm) 4

/-- SLTI (R204). -/
def execSlti (rd rs1 : Reg) (imm : BitVec 12) (s : State) : Result :=
  writeBack s rd (boolWord (ltSigned (s.getReg rs1) (sext12 imm))) 4

/-- SLTIU (R205). -/
def execSltiu (rd rs1 : Reg) (imm : BitVec 12) (s : State) : Result :=
  writeBack s rd (boolWord (ltUnsigned (s.getReg rs1) (sext12 imm))) 4

/-- XORI (R206). -/
def execXori (rd rs1 : Reg) (imm : BitVec 12) (s : State) : Result :=
  writeBack s rd (s.getReg rs1 ^^^ sext12 imm) 4

/-- ORI (R207). -/
def execOri (rd rs1 : Reg) (imm : BitVec 12) (s : State) : Result :=
  writeBack s rd (s.getReg rs1 ||| sext12 imm) 4

/-- ANDI (R208). -/
def execAndi (rd rs1 : Reg) (imm : BitVec 12) (s : State) : Result :=
  writeBack s rd (s.getReg rs1 &&& sext12 imm) 4

/-- SLLI (R209). -/
def execSlli (rd rs1 : Reg) (shamt : BitVec 5) (s : State) : Result :=
  writeBack s rd (shiftLeft (s.getReg rs1) shamt.toNat) 4

/-- SRLI (R210). -/
def execSrli (rd rs1 : Reg) (shamt : BitVec 5) (s : State) : Result :=
  writeBack s rd (shiftRightL (s.getReg rs1) shamt.toNat) 4

/-- SRAI (R211). -/
def execSrai (rd rs1 : Reg) (shamt : BitVec 5) (s : State) : Result :=
  writeBack s rd (shiftRightA (s.getReg rs1) shamt.toNat) 4

/-- ADD (R212). -/
def execAdd (rd rs1 rs2 : Reg) (s : State) : Result :=
  writeBack s rd (s.getReg rs1 + s.getReg rs2) 4

/-- SUB (R213). -/
def execSub (rd rs1 rs2 : Reg) (s : State) : Result :=
  writeBack s rd (s.getReg rs1 - s.getReg rs2) 4

/-- SLL (R214). -/
def execSll (rd rs1 rs2 : Reg) (s : State) : Result :=
  writeBack s rd (shiftLeft (s.getReg rs1) (s.getReg rs2).toNat) 4

/-- SLT (R215). -/
def execSlt (rd rs1 rs2 : Reg) (s : State) : Result :=
  writeBack s rd (boolWord (ltSigned (s.getReg rs1) (s.getReg rs2))) 4

/-- SLTU (R216). -/
def execSltu (rd rs1 rs2 : Reg) (s : State) : Result :=
  writeBack s rd (boolWord (ltUnsigned (s.getReg rs1) (s.getReg rs2))) 4

/-- XOR (R217). -/
def execXor (rd rs1 rs2 : Reg) (s : State) : Result :=
  writeBack s rd (s.getReg rs1 ^^^ s.getReg rs2) 4

/-- SRL (R218). -/
def execSrl (rd rs1 rs2 : Reg) (s : State) : Result :=
  writeBack s rd (shiftRightL (s.getReg rs1) (s.getReg rs2).toNat) 4

/-- SRA (R219). -/
def execSra (rd rs1 rs2 : Reg) (s : State) : Result :=
  writeBack s rd (shiftRightA (s.getReg rs1) (s.getReg rs2).toNat) 4

/-- OR (R220). -/
def execOr (rd rs1 rs2 : Reg) (s : State) : Result :=
  writeBack s rd (s.getReg rs1 ||| s.getReg rs2) 4

/-- AND (R221). -/
def execAnd (rd rs1 rs2 : Reg) (s : State) : Result :=
  writeBack s rd (s.getReg rs1 &&& s.getReg rs2) 4

end Sys2Proof.Machine
end

