-- ==== Sys2Proof/Machine/Control.lean ====
section
/-! DEFINITION. RV32I control transfer (spec/41_rv32i_control_transfer.md). -/
namespace Sys2Proof.Machine

/-- A branch of `len` bytes: to pc + off where the condition holds, else the next instruction (R230, R231). -/
def branchIf (s : State) (c : Bool) (off : Word) (len : Nat) : Result :=
  if c then jumpTo s 0 len (s.pc + off) else .next (s.retire len)

/-- The target of an indirect jump: bit 0 of the sum is cleared (R233). -/
def indirectTarget (sum : Word) : Word := sum &&& 0xFFFFFFFE

/-- JAL (R232). -/
def execJal (rd : Reg) (off : BitVec 20) (s : State) : Result :=
  jumpTo s rd 4 (s.pc + jOffset off)

/-- JALR (R233). -/
def execJalr (rd rs1 : Reg) (imm : BitVec 12) (s : State) : Result :=
  jumpTo s rd 4 (indirectTarget (s.getReg rs1 + sext12 imm))

/-- BEQ (R234). -/
def execBeq (rs1 rs2 : Reg) (off : BitVec 12) (s : State) : Result :=
  branchIf s (s.getReg rs1 == s.getReg rs2) (bOffset off) 4

/-- BNE (R235). -/
def execBne (rs1 rs2 : Reg) (off : BitVec 12) (s : State) : Result :=
  branchIf s (s.getReg rs1 != s.getReg rs2) (bOffset off) 4

/-- BLT (R236). -/
def execBlt (rs1 rs2 : Reg) (off : BitVec 12) (s : State) : Result :=
  branchIf s (ltSigned (s.getReg rs1) (s.getReg rs2)) (bOffset off) 4

/-- BGE (R237). -/
def execBge (rs1 rs2 : Reg) (off : BitVec 12) (s : State) : Result :=
  branchIf s (!ltSigned (s.getReg rs1) (s.getReg rs2)) (bOffset off) 4

/-- BLTU (R238). -/
def execBltu (rs1 rs2 : Reg) (off : BitVec 12) (s : State) : Result :=
  branchIf s (ltUnsigned (s.getReg rs1) (s.getReg rs2)) (bOffset off) 4

/-- BGEU (R239). -/
def execBgeu (rs1 rs2 : Reg) (off : BitVec 12) (s : State) : Result :=
  branchIf s (!ltUnsigned (s.getReg rs1) (s.getReg rs2)) (bOffset off) 4

end Sys2Proof.Machine
end

