-- ==== Sys2Proof/Machine/LoadStore.lean ====
section
/-! DEFINITION. RV32I loads, stores and fences (spec/42_rv32i_load_store_fence.md). -/
namespace Sys2Proof.Machine

/-- A load of `n` bytes from `a` into `rd`, extended by `ext` (R250). -/
def loadTo (s : State) (rd : Reg) (a : Word) (n : Nat) (ext : Word → Word) (len : Nat) : Result :=
  match memRead s a n with
  | .ok v => writeBack s rd (ext v) len
  | .exn e t => raise s e t
  | .refused r => .refused r
  | .stuck => .next s.wait

/-- A store of the low `n` bytes of `v` at `a` (R250). -/
def storeTo (s : State) (a : Word) (n : Nat) (v : Word) (len : Nat) : Result :=
  match memWrite s a n v with
  | .ok s' => .next (s'.retire len)
  | .exn e t => raise s e t
  | .refused r => .refused r
  | .stuck => .next s.wait

/-- The extensions of the loads (R251 to R255). -/
def signExt8 (v : Word) : Word := (v.extractLsb' 0 8).signExtend 32
def signExt16 (v : Word) : Word := (v.extractLsb' 0 16).signExtend 32
def noExt (v : Word) : Word := v

/-- LB (R251). -/
def execLb (rd rs1 : Reg) (imm : BitVec 12) (s : State) : Result :=
  loadTo s rd (s.effAddr rs1 imm) 1 signExt8 4

/-- LH (R252). -/
def execLh (rd rs1 : Reg) (imm : BitVec 12) (s : State) : Result :=
  loadTo s rd (s.effAddr rs1 imm) 2 signExt16 4

/-- LW (R253). -/
def execLw (rd rs1 : Reg) (imm : BitVec 12) (s : State) : Result :=
  loadTo s rd (s.effAddr rs1 imm) 4 noExt 4

/-- LBU (R254). -/
def execLbu (rd rs1 : Reg) (imm : BitVec 12) (s : State) : Result :=
  loadTo s rd (s.effAddr rs1 imm) 1 noExt 4

/-- LHU (R255). -/
def execLhu (rd rs1 : Reg) (imm : BitVec 12) (s : State) : Result :=
  loadTo s rd (s.effAddr rs1 imm) 2 noExt 4

/-- SB (R256). -/
def execSb (rs1 rs2 : Reg) (imm : BitVec 12) (s : State) : Result :=
  storeTo s (s.effAddr rs1 imm) 1 (s.getReg rs2) 4

/-- SH (R257). -/
def execSh (rs1 rs2 : Reg) (imm : BitVec 12) (s : State) : Result :=
  storeTo s (s.effAddr rs1 imm) 2 (s.getReg rs2) 4

/-- SW (R258). -/
def execSw (rs1 rs2 : Reg) (imm : BitVec 12) (s : State) : Result :=
  storeTo s (s.effAddr rs1 imm) 4 (s.getReg rs2) 4

/-- FENCE: "executed as NOP" (R261). -/
def execFence (_pred _succ : BitVec 4) (s : State) : Result :=
  .next (s.retire 4)

/-- The fetch queue is emptied: every later fetch sees memory as it is (R125, R262). -/
def State.flushFetch (s : State) : State := { s with stale := [] }

/-- FENCE.I (R262). -/
def execFenceI (s : State) : Result :=
  .next (s.flushFetch.retire 4)

end Sys2Proof.Machine
end

