-- ==== Sys2Proof/Machine/System.lean ====
section
/-! DEFINITION. System and CSR instructions (spec/43_system_csr.md). -/
namespace Sys2Proof.Machine

/-- EBREAK and C.EBREAK: the three branches of R272. -/
def breakpoint (s : State) : Result :=
  if s.debugMode then .next { s with pb := .ended }
  else if s.cfg.dbgEn && s.dcsr.getLsbD 15 then .next (s.enterDebug causeEbreak s.pc)
  else raise s .breakpoint (if s.cfg.mtvalEbreakAddr then s.pc else 0)

/-- WFI: no sleep in Debug Mode, under single step, or with an enabled interrupt pending (R274, R542, R555). -/
def waitForInterrupt (s : State) : State :=
  if s.debugMode || s.stepping || s.wakes then s else { s with sleeping := true }

/-- ECALL (R271); undefined in Debug Mode (R554, D31). -/
def execEcall (s : State) : Result :=
  if s.debugMode then .refused .undefinedInDebugMode else raise s .ecallM 0

/-- EBREAK (R272). -/
def execEbreak (s : State) : Result :=
  breakpoint s

/-- MRET (R273); undefined in Debug Mode (R554, D31). -/
def execMret (s : State) : Result :=
  if s.debugMode then .refused .undefinedInDebugMode else s.trapReturn

/-- WFI (R274). -/
def execWfi (s : State) : Result :=
  .next ((waitForInterrupt s).retire 4)

/-- CSRRW (R281). -/
def execCsrrw (rd rs1 : Reg) (csr : BitVec 12) (s : State) : Result :=
  csrInstr s (Instr.csrrw rd rs1 csr).bits rd csr true true (fun _ => s.getReg rs1)

/-- CSRRS (R282). -/
def execCsrrs (rd rs1 : Reg) (csr : BitVec 12) (s : State) : Result :=
  csrInstr s (Instr.csrrs rd rs1 csr).bits rd csr (rs1 != 0) false (fun old => old ||| s.getReg rs1)

/-- CSRRC (R283). -/
def execCsrrc (rd rs1 : Reg) (csr : BitVec 12) (s : State) : Result :=
  csrInstr s (Instr.csrrc rd rs1 csr).bits rd csr (rs1 != 0) false (fun old => old &&& ~~~(s.getReg rs1))

/-- CSRRWI (R284). -/
def execCsrrwi (rd zimm : BitVec 5) (csr : BitVec 12) (s : State) : Result :=
  csrInstr s (Instr.csrrwi rd zimm csr).bits rd csr true true (fun _ => zext5 zimm)

/-- CSRRSI (R285). -/
def execCsrrsi (rd zimm : BitVec 5) (csr : BitVec 12) (s : State) : Result :=
  csrInstr s (Instr.csrrsi rd zimm csr).bits rd csr (zimm != 0) false (fun old => old ||| zext5 zimm)

/-- CSRRCI (R286). -/
def execCsrrci (rd zimm : BitVec 5) (csr : BitVec 12) (s : State) : Result :=
  csrInstr s (Instr.csrrci rd zimm csr).bits rd csr (zimm != 0) false (fun old => old &&& ~~~(zext5 zimm))

end Sys2Proof.Machine
end

