-- ==== Sys2Proof/Machine/Compressed.lean ====
section
/-! DEFINITION. The C extension (spec/45_rvc.md): each as the 32-bit instruction its rule names, 2 bytes long. -/
namespace Sys2Proof.Machine

/-- C.ILLEGAL (R301). -/
def execCIllegal (s : State) : Result :=
  raise s .illegal 0

/-- C.ADDI4SPN (R302). -/
def execCAddi4spn (rd : RegC) (imm : BitVec 8) (s : State) : Result :=
  writeBack s (regC rd) (s.getReg spReg + imm4spn imm) 2

/-- C.LW (R303). -/
def execCLw (rd rs1 : RegC) (imm : BitVec 5) (s : State) : Result :=
  loadTo s (regC rd) (s.effAddrC rs1 imm) 4 noExt 2

/-- C.SW (R304). -/
def execCSw (rs1 rs2 : RegC) (imm : BitVec 5) (s : State) : Result :=
  storeTo s (s.effAddrC rs1 imm) 4 (s.getReg (regC rs2)) 2

/-- C.NOP (R305). -/
def execCNop (s : State) : Result :=
  .next (s.retire 2)

/-- C.ADDI (R306). -/
def execCAddi (rd : Reg) (imm : BitVec 6) (s : State) : Result :=
  writeBack s rd (s.getReg rd + sext6 imm) 2

/-- C.JAL (R307). -/
def execCJal (off : BitVec 11) (s : State) : Result :=
  jumpTo s raReg 2 (s.pc + cjOffset off)

/-- C.LI (R308). -/
def execCLi (rd : Reg) (imm : BitVec 6) (s : State) : Result :=
  writeBack s rd (sext6 imm) 2

/-- C.ADDI16SP (R309). -/
def execCAddi16sp (imm : BitVec 6) (s : State) : Result :=
  writeBack s spReg (s.getReg spReg + imm16sp imm) 2

/-- C.LUI (R310). -/
def execCLui (rd : Reg) (imm : BitVec 6) (s : State) : Result :=
  writeBack s rd (immClui imm) 2

/-- C.SRLI (R311). -/
def execCSrli (rd : RegC) (shamt : BitVec 5) (s : State) : Result :=
  writeBack s (regC rd) (shiftRightL (s.getReg (regC rd)) shamt.toNat) 2

/-- C.SRAI (R312). -/
def execCSrai (rd : RegC) (shamt : BitVec 5) (s : State) : Result :=
  writeBack s (regC rd) (shiftRightA (s.getReg (regC rd)) shamt.toNat) 2

/-- C.ANDI (R313). -/
def execCAndi (rd : RegC) (imm : BitVec 6) (s : State) : Result :=
  writeBack s (regC rd) ((s.getReg (regC rd)) &&& sext6 imm) 2

/-- C.SUB (R314). -/
def execCSub (rd rs2 : RegC) (s : State) : Result :=
  writeBack s (regC rd) ((s.getReg (regC rd)) - (s.getReg (regC rs2))) 2

/-- C.XOR (R315). -/
def execCXor (rd rs2 : RegC) (s : State) : Result :=
  writeBack s (regC rd) ((s.getReg (regC rd)) ^^^ (s.getReg (regC rs2))) 2

/-- C.OR (R316). -/
def execCOr (rd rs2 : RegC) (s : State) : Result :=
  writeBack s (regC rd) ((s.getReg (regC rd)) ||| (s.getReg (regC rs2))) 2

/-- C.AND (R317). -/
def execCAnd (rd rs2 : RegC) (s : State) : Result :=
  writeBack s (regC rd) ((s.getReg (regC rd)) &&& (s.getReg (regC rs2))) 2

/-- C.J (R318). -/
def execCJ (off : BitVec 11) (s : State) : Result :=
  jumpTo s 0 2 (s.pc + cjOffset off)

/-- C.BEQZ (R319). -/
def execCBeqz (rs1 : RegC) (off : BitVec 8) (s : State) : Result :=
  branchIf s (s.getReg (regC rs1) == 0) (cbOffset off) 2

/-- C.BNEZ (R320). -/
def execCBnez (rs1 : RegC) (off : BitVec 8) (s : State) : Result :=
  branchIf s (s.getReg (regC rs1) != 0) (cbOffset off) 2

/-- C.SLLI (R321). -/
def execCSlli (rd : Reg) (shamt : BitVec 5) (s : State) : Result :=
  writeBack s rd (shiftLeft (s.getReg rd) shamt.toNat) 2

/-- C.LWSP (R322). -/
def execCLwsp (rd : Reg) (imm : BitVec 6) (s : State) : Result :=
  loadTo s rd (s.effAddrSp imm) 4 noExt 2

/-- C.JR (R323). -/
def execCJr (rs1 : Reg) (s : State) : Result :=
  jumpTo s 0 2 (indirectTarget (s.getReg rs1))

/-- C.MV (R324). -/
def execCMv (rd rs2 : Reg) (s : State) : Result :=
  writeBack s rd (s.getReg rs2) 2

/-- C.EBREAK (R325). -/
def execCEbreak (s : State) : Result :=
  breakpoint s

/-- C.JALR (R326). -/
def execCJalr (rs1 : Reg) (s : State) : Result :=
  jumpTo s raReg 2 (indirectTarget (s.getReg rs1))

/-- C.ADD (R327). -/
def execCAdd (rd rs2 : Reg) (s : State) : Result :=
  writeBack s rd (s.getReg rd + s.getReg rs2) 2

/-- C.SWSP (R328). -/
def execCSwsp (rs2 : Reg) (imm : BitVec 6) (s : State) : Result :=
  storeTo s (s.effAddrSp imm) 4 (s.getReg rs2) 2

end Sys2Proof.Machine
end

