-- ==== Sys2Proof/Machine/MulDiv.lean ====
section
/-! DEFINITION. The M extension (spec/44_rv32m.md). Operands become integers, the result is exact, then narrowed. -/
namespace Sys2Proof.Machine

/-- Bits 31:0 and 63:32 of a product (R291 to R294). -/
def lowWord (p : Int) : Word := BitVec.ofInt 32 p
def highWord (p : Int) : Word := BitVec.ofInt 32 (p / 2 ^ 32)

/-- Quotient and remainder rounded toward zero; by zero: all ones, and the dividend (R290, R295 to R298). -/
def divSigned (a b : Word) : Word := if b = 0 then 0xFFFFFFFF else BitVec.ofInt 32 (a.toInt.tdiv b.toInt)
def remSigned (a b : Word) : Word := if b = 0 then a else BitVec.ofInt 32 (a.toInt.tmod b.toInt)
def divUnsigned (a b : Word) : Word := if b = 0 then 0xFFFFFFFF else BitVec.ofNat 32 (a.toNat / b.toNat)
def remUnsigned (a b : Word) : Word := if b = 0 then a else BitVec.ofNat 32 (a.toNat % b.toNat)

/-- MUL (R291). -/
def execMul (rd rs1 rs2 : Reg) (s : State) : Result :=
  writeBack s rd (lowWord ((s.getReg rs1).toInt * (s.getReg rs2).toInt)) 4

/-- MULH (R292). -/
def execMulh (rd rs1 rs2 : Reg) (s : State) : Result :=
  writeBack s rd (highWord ((s.getReg rs1).toInt * (s.getReg rs2).toInt)) 4

/-- MULHSU (R293). -/
def execMulhsu (rd rs1 rs2 : Reg) (s : State) : Result :=
  writeBack s rd (highWord ((s.getReg rs1).toInt * (s.getReg rs2).toNat)) 4

/-- MULHU (R294). -/
def execMulhu (rd rs1 rs2 : Reg) (s : State) : Result :=
  writeBack s rd (highWord ((s.getReg rs1).toNat * (s.getReg rs2).toNat)) 4

/-- DIV (R295). -/
def execDiv (rd rs1 rs2 : Reg) (s : State) : Result :=
  writeBack s rd (divSigned (s.getReg rs1) (s.getReg rs2)) 4

/-- DIVU (R296). -/
def execDivu (rd rs1 rs2 : Reg) (s : State) : Result :=
  writeBack s rd (divUnsigned (s.getReg rs1) (s.getReg rs2)) 4

/-- REM (R297). -/
def execRem (rd rs1 rs2 : Reg) (s : State) : Result :=
  writeBack s rd (remSigned (s.getReg rs1) (s.getReg rs2)) 4

/-- REMU (R298). -/
def execRemu (rd rs1 rs2 : Reg) (s : State) : Result :=
  writeBack s rd (remUnsigned (s.getReg rs1) (s.getReg rs2)) 4

end Sys2Proof.Machine
end

