-- ==== Sys2Proof/Machine/Hart.lean ====
section
/-! DEFINITION. One step of the hart: interrupts, halt requests, sleep, triggers, fetch, decode, execution, single
step (spec/20_memory.md R113, spec/60_exceptions.md R411 to R415, spec/62_debug.md R540 to R543). -/
namespace Sys2Proof.Machine

/-! ## Fetch (R113, R125) -/

/-- What a fetch answers. -/
inductive Fetched where
  /-- the 32-bit window at pc; only its low half counts for a short instruction -/
  | window (w : Word)
  | error (tval : Word)
  | refused (r : Refusal)
  | stuck
  deriving DecidableEq, Repr

/-- The copies that the fetch queue may still hold of the aligned word at `w`. -/
def staleCopies (s : State) (w : Word) : List Word := (s.stale.filter (fun c => c.1 == w.toNat)).map (·.2)

/-- One byte as the fetch sees it. The aligned word that holds it comes whole from memory, or whole from one old copy,
where no FENCE.I came between: all bytes of one word in one step follow one choice (R125, D21; log 10). -/
def fetchByte (s : State) (a : Word) : Byte :=
  match staleCopies s (wordBase a) with
  | [] => s.byteAt a
  | olds =>
    let k := Config.staleChoice s.freeCtr (wordBase a).toNat % (olds.length + 1)
    byteOf (((s.wordHolding a :: olds)[k]?).getD (s.wordHolding a)) (a.toNat % 4)

/-- How the responder answers the aligned word that holds `a`. -/
inductive FetchStatus where
  | ok
  | error
  | stuck
  deriving DecidableEq, Repr

def fetchStatus (cfg : Config) (a : Word) : FetchStatus :=
  let w := wordBase a
  if inTcm cfg w then .ok
  else if inWindows cfg.imemHang w then .stuck
  else if inWindows cfg.imemErr w then .error
  else .ok

/-- The bytes at pc as the fetch sees them, little-endian. -/
def fetchHalf (s : State) (a : Word) : BitVec 16 := half (fetchByte s a) (fetchByte s (a + 1))

/-- `Fetch(pc)` (R113). Only the fetch of the instruction at pc can go unanswered and make the hart wait. How many words are
fetched ahead is not stated (R614, N24), and no word that is fetched ahead and not executed hangs the hart; the model's choice
(log 36). -/
def fetch (s : State) : Fetched :=
  match fetchStatus s.cfg s.pc with
  | .stuck => .stuck
  | .error => .error s.pc
  | .ok =>
    let lo := fetchHalf s s.pc
    if isShort s.cfg lo then .window (lo.setWidth 32)
    else
      let full := BitVec.ofNat 32 (lo.toNat + 65536 * (fetchHalf s (s.pc + 2)).toNat)
      if !s.pc.getLsbD 1 then .window full
      else if s.pc = 0xFFFFFFFE then .refused .pcPastTop
      else
        match fetchStatus s.cfg (s.pc + 2) with
        | .ok => .window full
        | .error => .error (if s.cfg.mtvalStraddlePlus2 then s.pc + 2 else s.pc)
        | .stuck => .stuck

/-- The faulting instruction bits of a window that does not decode (R163, R423, D25). -/
def illegalBits (cfg : Config) (w : Word) : Word :=
  if isShort cfg (w.extractLsb' 0 16) then (w.extractLsb' 0 16).setWidth 32 else w

/-! ## Interrupts (R413, R414) -/

/-- Interrupts are masked while single-stepping with stepie = 0 (R542). -/
def State.stepMasks (s : State) : Bool := s.stepping && !s.dcsr.getLsbD 11

/-- The interrupt taken at this boundary: external, then software, then timer. -/
def pendingInterrupt (s : State) : Option (BitVec 4) :=
  if s.csr.mstatus.getLsbD 3 && !s.debugMode && !s.stepMasks then
    if s.csr.mie.getLsbD 11 && s.meip then some 11
    else if s.csr.mie.getLsbD 3 && s.msip then some 3
    else if s.csr.mie.getLsbD 7 && s.mtip then some 7
    else none
  else none

/-! ## One instruction -/

/-- The load or store that the instruction at pc makes, for the triggers; none where no instruction can be fetched and
decoded (R411, R576). -/
def upcomingAccess (s : State) : DataAccess :=
  match fetch s with
  | .window w =>
    match decodeWindow s.cfg w with
    | .ok i => dataAccess s i
    | .error _ => .none
  | _ => .none

/-- Decode the fetched window and execute it (R163, R411). -/
def runWindow (s : State) (w : Word) : Result :=
  match decodeWindow s.cfg w with
  | .error _ => raise s .illegal (illegalBits s.cfg w)
  | .ok i => exec i s

/-- The instruction at pc, or what the triggers or the fetch make of it. One look at the triggers keeps the order of D10:
an execute trigger comes before the fetch, and an instruction that loads or stores meets nothing else before its load or
store triggers (R411, R576, R577, D10, D50). -/
def runInstr (s : State) : Result :=
  match checkTriggers s (upcomingAccess s) with
  | (_, some s') => .next s'
  | (s', none) =>
    match fetch s' with
    | .window w => runWindow s' w
    | .error tval => raise s' .instrFault tval
    | .refused r => .refused r
    | .stuck => .next s'.wait

/-- ICOUNT after an instruction completed or trapped; one that ends in Debug Mode is not counted (R579; log 18). A WFI that goes to
sleep has completed here, so ICOUNT fires before the sleep, which its action ends; the model's choice (R274, R452; log 18). -/
def afterIcount (before s : State) : Result :=
  if s.debugMode then .next s
  else
    match icountActive before with
    | some t => icountStep t s
    | none => .next s

/-- An address trigger fires on the instruction at pc (R576). -/
def addressFires (s : State) : Bool := (checkTriggers s (upcomingAccess s)).2.isSome

/-- ICOUNT, active before the instruction, fires after it: not while it has fired already, and not in Debug Mode (R579;
log 18). -/
def icountFires (before s : State) : Bool :=
  !s.debugMode &&
    (match icountActive before with
    | some t => !t.fired
    | none => false)

/-- The cause of the entry that ends a single step: 2 where a trigger fired, else 3 where the halt request stands, else 4
(R540, R542). -/
def stepCause (fired : Bool) (s : State) : BitVec 3 :=
  if fired then causeTrigger else if s.dm.haltreq then causeHaltreq else causeStep

/-- Single step: Debug Mode is entered after the one instruction and the traps it ends in, with DPC where the pc then is;
`fired` tells whether a trigger fired (R542; log 19). -/
def afterStep (fired : Bool) (before s : State) : State :=
  if before.stepping && !s.debugMode then s.enterDebug (stepCause fired s) s.pc else s

/-- The instruction at the last address ended in sequential flow, and ICOUNT or single step would now save address 0 as the
place to go on at: a flow that the spec gives no meaning (R26, D11; log 13). -/
def leavesPastTop (before s : State) : Bool := s.seqWrap && (icountFires before s || before.stepping)

/-- One instruction with what follows it: ICOUNT, which counts the breakpoint exception of an address trigger too, then
single step (R542, R579; log 18). Nothing follows one that waits on the bus (R614), and neither may take the hart past the top
of the address space (D11). The action of ICOUNT belongs to the step of the instruction it counts, and so comes before an
interrupt or a halt request that qualifies at the same boundary, and before an address trigger, with either action, that matches
the next instruction: that trigger then neither acts nor sets its hit bit until the hart comes to that instruction. Between them
and the action of ICOUNT the spec gives no order, and D50 speaks of triggers that fire on one instruction; the model's choice
(R413, R540, R577, R579; log 18). -/
def runOne (s : State) : Result :=
  match runInstr s with
  | .next s' =>
    if s'.waiting then .next s'
    else if leavesPastTop s s' then .refused .pcPastTop
    else
      match afterIcount s s' with
      | .next s'' => .next (afterStep (addressFires s || icountFires s s') s s'')
      | .fault f => .fault f
      | .refused r => .refused r
  | .fault f => .fault f
  | .refused r => .refused r

/-! ## One boundary -/

/-- The halt request is honoured: cause 2 where a Debug Mode trigger fires on the instruction at pc, else cause 3
(R540). -/
def honourHalt (s : State) : State :=
  if !s.sleeping && debugTriggerAt s (upcomingAccess s) then
    let s' := (checkTriggers s (upcomingAccess s)).1
    s'.enterDebug causeTrigger s.pc
  else s.enterDebug causeHaltreq s.pc

/-- The halt request goes first: no interrupt qualifies, or the free choice says so (R540; log 11). -/
def haltsNow (s : State) : Bool :=
  s.cfg.dbgEn && s.dm.haltreq && ((pendingInterrupt s).isNone || Config.haltFirst s.freeCtr)

/-- One step of the hart outside events: held in reset, halted, waiting on the bus, halting, interrupted, asleep, or
executing (R413, R415, R452, R530, R540, R614, R651). -/
def hartStep (s : State) : Result :=
  if s.coreReset || s.debugMode || s.waiting then .next s
  else if s.seqWrap then .refused .pcPastTop
  else if haltsNow s then .next (honourHalt s)
  else
    match pendingInterrupt s with
    | some code => .next (afterStep false s (s.takeTrap true code 0 s.pc))
    | none =>
      if s.sleeping && !s.wakes then .next s
      else runOne { s with sleeping := false }

end Sys2Proof.Machine
end

