-- ==== Sys2Proof/Machine/Debug.lean ====
section
/-! DEFINITION. What the debugger and the rest of the outside world do to the machine: Debug Module, abstract
commands, Program Buffer, SCU, TAPC, pins (spec/62_debug.md sections 2 to 8, spec/63_interfaces.md R630). -/
namespace Sys2Proof.Machine

/-! ## Program Buffer (R538, R539) -/

/-- Halfword `k` of the Program Buffer. -/
def pbHalf (s : State) (k : Nat) : BitVec 16 :=
  match s.dm.progbuf[k / 2]? with
  | some w => w.extractLsb' (16 * (k % 2)) 16
  | none => 0

/-- Run from byte offset `o` until the run ends or waits on the bus; twelve instructions fill the buffer (R538). `pb`
tells how it ended. -/
def pbRun : Nat → Nat → State → Result
  | 0, _, s => .next { s with pb := .ended }
  | fuel + 1, o, s =>
    if 24 ≤ o then .next { s with pb := .ended }
    else
      let lo := pbHalf s (o / 2)
      let short := isShort s.cfg lo
      if !short && o == 22 then .refused .pcInProgramBuffer
      else
        match decodeWindow s.cfg (BitVec.ofNat 32 (lo.toNat + 65536 * (pbHalf s (o / 2 + 1)).toNat)) with
        | .error _ => .next { s with pb := .exception }
        | .ok i =>
          match exec i { s with pb := .none } with
          | .next s' => if s'.pb = .none ∧ s'.waiting = false then pbRun fuel (o + if short then 2 else 4) s'.tick else .next s'
          | .fault f => .fault f
          | .refused r => .refused r

/-! ## Abstract commands (R533 to R537) -/

/-- A command ends with an error code (R526). -/
def State.setCmderr (s : State) (e : BitVec 3) : State := { s with dm := { s.dm with cmderr := e } }

/-- The command waits for a bus answer that never comes: the hart waits and busy stays 1 (R526, R533, R614; log 34). -/
def State.hangCommand (s : State) : State := { s with waiting := true, dm := { s.dm with busy := true } }

/-- The Access Register command has ended well, and gives no guarantee of DATA1 (R529; log 15). -/
def State.spendData1 (s : State) : State := { s with dm := { s.dm with data1 := Config.freeWord s.freeCtr .data1 } }

/-- The command fails with the code `e`; what DATA0 and DATA1 then hold is not given (R529, R534; log 15). -/
def State.failCommand (s : State) (e : BitVec 3) : State :=
  { s with dm := { s.dm with
      cmderr := e
      data0 := Config.freeWord s.freeCtr .data0
      data1 := Config.freeWord s.freeCtr .data1 } }

/-- Run the Program Buffer; an exception sets cmderr 3 (R538, R552). -/
def runProgbuf (s : State) : Result :=
  match pbRun 13 0 { s with pb := .none } with
  | .next s' =>
    if s'.waiting then .next ({ s' with pb := .none }).hangCommand
    else if s'.pb = .exception then .next (({ s' with pb := .none }).failCommand 3)
    else .next ({ s' with pb := .none }).spendData1
  | .fault f => .fault f
  | .refused r => .refused r

/-- The register of a regno of Table 54 (R536). -/
inductive RegnoTarget where
  | csr (a : BitVec 12)
  | gpr (r : Reg)
  | absent
  deriving DecidableEq, Repr

def regnoTarget (s : State) (regno : Nat) : RegnoTarget :=
  if regno < 0x1000 then
    if csrExists s (BitVec.ofNat 12 regno) then .csr (BitVec.ofNat 12 regno) else .absent
  else if regno < 0x1020 then
    if s.cfg.rve ∧ 0x1010 ≤ regno then .absent else .gpr (BitVec.ofNat 5 (regno - 0x1000))
  else .absent

/-- The registers readable while the hart runs; DPC stands for the pc (R535). Which instruction's pc is sampled is not defined
(R560): here that of the next instruction at the step boundary, of the hung one where the hart waits on the bus; the model's
choice (log 37). -/
def runningRead (s : State) (regno : Nat) : Option Word :=
  match regno with
  | 0x301 | 0xF11 | 0xF12 | 0xF13 | 0xF14 => some (csrRead s (BitVec.ofNat 12 regno))
  | 0x7B1 => some s.pc
  | _ => none

def State.setData0 (s : State) (v : Word) : State := { s with dm := { s.dm with data0 := v } }

/-- The transfer of Access Register on a halted hart (R535); `none` when the register does not exist or cannot be
written by an M-mode write. -/
def transferReg (s : State) (regno : Nat) (write : Bool) : Option Result :=
  match regnoTarget s regno with
  | .absent => none
  | .gpr r => some (.next (if write then s.setReg r s.dm.data0 else s.setData0 (s.getReg r)))
  | .csr a =>
    if write then (if csrReadOnly a then none else some (csrWrite s a s.dm.data0))
    else some (.next (s.setData0 (csrRead s a)))

/-- The transfer asks for what is not supported: a size other than 32 bits, or a regno of 0x1020 and above, of which Table 54
lists no register (R535, R536 and their row in spec/93_implementation_defined.md section 1.5; log 21). -/
def transferUnsupported (c : Word) : Bool :=
  (c.extractLsb' 20 3).toNat != 2 || decide (0x1020 ≤ (c.extractLsb' 0 16).toNat)

/-- Access Register (R535, D36). A halted hart that already waits on the bus takes no command on: it hangs (log 34). -/
def accessRegister (s : State) (c : Word) : Result :=
  let regno := (c.extractLsb' 0 16).toNat
  let write := c.getLsbD 16
  let transfer := c.getLsbD 17
  let postexec := c.getLsbD 18
  if c.getLsbD 19 || c.getLsbD 23 || (transfer && transferUnsupported c) then .next (s.failCommand 2)
  else if !s.debugMode then
    if transfer && !write && !postexec then
      match runningRead s regno with
      | some v => .next (s.setData0 v).spendData1
      | none => .next (s.failCommand 4)
    else .next (s.failCommand 4)
  else if s.waiting then .next s.hangCommand
  else
    match (if transfer then transferReg s regno write else some (.next s)) with
    | none => .next (s.failCommand 3)
    | some (.next s') => if postexec then runProgbuf s' else .next s'.spendData1
    | some (.fault f) => .fault f
    | some (.refused r) => .refused r

/-- Access Memory (R537, D36, D49). An access that raises is a failed command: the hart is as before, and of the registers
only cmderr changes and what R529 lets no one rely on (R529, R537, R552; log 15). -/
def accessMemory (s : State) (c : Word) : Result :=
  let size := (c.extractLsb' 20 3).toNat
  if (c.extractLsb' 0 16).toNat ≠ 0 ∨ (c.extractLsb' 17 2).toNat ≠ 0 ∨ c.getLsbD 19 ∨ c.getLsbD 23 ∨ 2 < size then
    .next (s.failCommand 2)
  else if !s.debugMode then .next (s.failCommand 4)
  else if s.waiting then .next s.hangCommand
  else if c.getLsbD 16 then
    match memWrite s s.dm.data1 (2 ^ size) s.dm.data0 with
    | .ok s' => .next s'
    | .exn _ _ => .next (s.failCommand 3)
    | .refused r => .refused r
    | .stuck => .next s.hangCommand
  else
    match memRead s s.dm.data1 (2 ^ size) with
    | .ok v => .next (s.setData0 v)
    | .exn _ _ => .next (s.failCommand 3)
    | .refused r => .refused r
    | .stuck => .next s.hangCommand

/-- The command in COMMAND is executed, unless cmderr is set; refused while the halt request is (R527, R533, R534;
log 20). -/
def runCommand (s : State) : Result :=
  if s.dm.cmderr ≠ 0 then .next s
  else if s.dm.haltreq then .refused .dmRequestDuringCommand
  else
    match (s.dm.command.extractLsb' 24 8).toNat with
    | 0 => accessRegister s s.dm.command
    | 2 => accessMemory s s.dm.command
    | _ => .next (s.failCommand 2)

/-- A DATA access executes the command again where ABSTRACTAUTO says so (R528). -/
def autoexec (s : State) (k : Nat) : Result := if s.dm.autoexec.getLsbD k then runCommand s else .next s

/-! ## DM registers (R521 to R529) -/

def readDmcontrol (s : State) : Word :=
  bitAt s.dm.dmactive 0 ||| bitAt s.dm.ndmreset 1 ||| (Config.freeWord s.freeCtr .dmcontrolBit31 &&& 0x80000000)

def readDmstatus (s : State) : Word :=
  0x00400082 ||| bitAt s.debugMode 8 ||| bitAt s.debugMode 9 ||| bitAt (!s.debugMode) 10 ||| bitAt (!s.debugMode) 11
    ||| bitAt s.dm.resumeack 16 ||| bitAt s.dm.resumeack 17 ||| bitAt s.dm.havereset 18 ||| bitAt s.dm.havereset 19

def readAbstractcs (s : State) : Word := 0x06000002 ||| BitVec.ofNat 32 (s.dm.cmderr.toNat * 256) ||| bitAt s.dm.busy 12

/-- The value a DMI read returns; `none` at a Reserved address (R521). -/
def dmValue (s : State) (a : Nat) : Option Word :=
  match a with
  | 0x04 => some s.dm.data0
  | 0x05 => some s.dm.data1
  | 0x10 => some (readDmcontrol s)
  | 0x11 => some (readDmstatus s)
  | 0x12 => some 0x001017B2
  | 0x16 => some (readAbstractcs s)
  | 0x17 => some (Config.freeWord s.freeCtr .commandRead)
  | 0x18 => some (s.dm.autoexec.setWidth 32)
  | 0x20 | 0x21 | 0x22 | 0x23 | 0x24 | 0x25 => s.dm.progbuf[a - 0x20]?
  | 0x40 => some (bitAt s.debugMode 0)
  | _ => none

/-- Resume: the pc is loaded from DPC and the fetch queue is empty (R541, D23). -/
def State.resume (s : State) : Result :=
  if pcAligned s.cfg s.dpc then
    .next { s with
      pc := s.dpc
      debugMode := false
      seqWrap := false
      stale := []
      dm := { s.dm with resumeack := true } }
  else .refused .misalignedReturn

/-- Write of DMCONTROL (R522, R531, R533, R541; log 33). A hart that waits on the bus cannot resume (log 34). Where resumereq
and ndmreset are written 1 together, for which the spec gives no order, the reset wins: the hart does not resume, DPC is not
looked at, and the resume acknowledgement stays 0; the model's choice (log 33). -/
def writeDmcontrol (s : State) (v : Word) : Result :=
  if !v.getLsbD 0 then .next { s with dm := Dm.reset }
  else if !s.dm.dmactive then .next { s with dm := { Dm.reset with dmactive := true } }
  else if s.dm.busy && (v.getLsbD 31 || v.getLsbD 30 || v.getLsbD 28) then .refused .dmRequestDuringCommand
  else
    let resumes := v.getLsbD 30 && !v.getLsbD 31
    let s' := { s with dm := { s.dm with
      ndmreset := v.getLsbD 1
      haltreq := v.getLsbD 31
      havereset := s.dm.havereset && !v.getLsbD 28
      resumeack := s.dm.resumeack && !resumes } }
    if resumes && s'.debugMode && !s'.coreReset && !s'.waiting then s'.resume else .next s'

/-- The DM registers whose access while a command executes is an error: DATA, PROGBUF read or written, ABSTRACTCS,
COMMAND, ABSTRACTAUTO written (R526 to R529). -/
def busyGuarded (a : Nat) (write : Bool) : Bool :=
  match a with
  | 0x04 | 0x05 | 0x20 | 0x21 | 0x22 | 0x23 | 0x24 | 0x25 => true
  | 0x16 | 0x17 | 0x18 => write
  | _ => false

/-- cmderr 1 where cmderr is 0 (R526). -/
def State.busyError (s : State) : State := if s.dm.cmderr = 0 then s.setCmderr 1 else s

/-- Write of a DM register other than DMCONTROL, with the module active and no command executing (R523 to R529). -/
def writeDm (s : State) (a : Nat) (v : Word) : Result :=
  match a with
  | 0x04 => autoexec (s.setData0 v) 0
  | 0x05 => autoexec { s with dm := { s.dm with data1 := v } } 1
  | 0x16 => .next (s.setCmderr (s.dm.cmderr &&& ~~~(v.extractLsb' 8 3)))
  | 0x17 => if s.dm.cmderr ≠ 0 then .next s else runCommand { s with dm := { s.dm with command := v } }
  | 0x18 => .next { s with dm := { s.dm with autoexec := v.extractLsb' 0 2 } }
  | 0x20 | 0x21 | 0x22 | 0x23 | 0x24 | 0x25 =>
    .next { s with dm := { s.dm with progbuf := s.dm.progbuf.setIfInBounds (a - 0x20) v } }
  | 0x11 | 0x12 | 0x40 => .next s
  | _ => .refused .dmiReservedAddress

/-- What the next DMI capture reports (R506). -/
def State.setDmi (s : State) (a : BitVec 7) (v : Word) : State :=
  { s with tap := { s.tap with dmiAddr := a, dmiData := v } }

/-- One DMI read (R520, R521, R526, R528, R532). What a read of DATA or PROGBUF returns while a command executes the spec does
not say: a free word, the model's choice (R529; log 15). Nor does it say what a read of DATA0 or DATA1 with its autoexecdata bit
set returns: the word from before the command that the read executes again; the model's choice (log 35). -/
def dmiRead (s : State) (a : BitVec 7) : Result :=
  if s.coreReset && a != 0x10 then .refused .dmiDuringReset
  else
    match dmValue s a.toNat with
    | none => .refused .dmiReservedAddress
    | some v =>
      let s' := s.setDmi a v
      if s.dm.busy && busyGuarded a.toNat false then .next (s.setDmi a (Config.freeWord s.freeCtr .dmiData)).busyError
      else if s.dm.dmactive && a == 0x04 then autoexec s' 0
      else if s.dm.dmactive && a == 0x05 then autoexec s' 1
      else .next s'

/-- One DMI write (R520, R521, R522, R526, R532). While dmactive is 0 only DMCONTROL is written; while a command executes
a guarded register keeps its value (R529; log 34). -/
def dmiWrite (s : State) (a : BitVec 7) (v : Word) : Result :=
  let s' := s.setDmi a (Config.freeWord s.freeCtr .dmiData)
  if a = 0x10 then writeDmcontrol s' v
  else if s.coreReset then .refused .dmiDuringReset
  else if (dmValue s a.toNat).isNone then .refused .dmiReservedAddress
  else if s.dm.busy && busyGuarded a.toNat true then .next s'.busyError
  else if s.dm.dmactive then writeDm s' a.toNat v
  else .next s'

/-! ## SCU (R507, R512 to R515) -/

def scuRead (s : State) (a : BitVec 2) : BitVec 4 :=
  match a.toNat with
  | 0 => s.scu.control
  | 1 => s.scu.mode
  | 2 => s.scuStatus
  | _ => s.scu.sticky

def ScuOp.code : ScuOp → BitVec 2
  | .write => 0
  | .read => 1
  | .setBits => 2
  | .clrBits => 3

def ScuOp.ofCode (c : BitVec 2) : ScuOp :=
  match c.toNat with
  | 0 => .write
  | 1 => .read
  | 2 => .setBits
  | _ => .clrBits

/-- What a writing operation makes of a register (R507). -/
def ScuOp.apply (op : ScuOp) (old data : BitVec 4) : BitVec 4 :=
  match op with
  | .write => data
  | .read => old
  | .setBits => data ||| old
  | .clrBits => ~~~data &&& old

/-- The registers after an operation; STATUS is read only, STICKY_STATUS takes READ and CLR_BITS (R514, R515). -/
def scuUpdate (c : Scu) (op : ScuOp) (a : BitVec 2) (data : BitVec 4) : Option Scu :=
  match a.toNat with
  | 0 => some { c with control := op.apply c.control data }
  | 1 => some { c with mode := op.apply c.mode data }
  | 2 => some c
  | _ => if op = .write ∨ op = .setBits then none else some { c with sticky := op.apply c.sticky data }

/-- One SCU operation. -/
def scuAccess (s : State) (op : ScuOp) (a : BitVec 2) (data : BitVec 4) : Result :=
  match scuUpdate s.scu op a data with
  | none => .refused .scuStickyWrite
  | some c =>
    .next { s with scu := { c with
      lastOp := op.code
      lastAddr := a
      lastData := if op = .read then scuRead s a else (Config.freeWord s.freeCtr .scuData).extractLsb' 0 4 } }

/-! ## TAPC (R502 to R507), at the grain of whole scans (log 25) -/

def State.setTdo (s : State) (v : Nat) : State := { s with tap := { s.tap with tdo := BitVec.ofNat 41 v } }

/-- Capture of DTMCS (R505). -/
def dtmcsCapture (s : State) : Nat := 0x71 + s.tap.dmistat.toNat * 1024

/-- Update of DTMCS: dmireset, dmihardreset (R505). -/
def dtmcsUpdate (s : State) (dr : BitVec 41) : State :=
  if dr.getLsbD 17 then { s with tap := { s.tap with dmistat := 0, dmiData := 0, dmiAddr := 0 } }
  else if dr.getLsbD 16 then { s with tap := { s.tap with dmistat := 0 } }
  else s

/-- Capture of DMI_ACCESS (R506). -/
def dmiCapture (s : State) : Nat :=
  s.tap.dmistat.toNat + s.tap.dmiData.toNat * 4 + s.tap.dmiAddr.toNat * 2 ^ 34

/-- Update of DMI_ACCESS (R506). -/
def dmiUpdate (s : State) (dr : BitVec 41) : Result :=
  let a : BitVec 7 := dr.extractLsb' 34 7
  if s.tap.dmistat ≠ 0 then .next s
  else
    match (dr.extractLsb' 0 2).toNat with
    | 0 => .next (s.setDmi ((Config.freeWord s.freeCtr .dmiAddr).extractLsb' 0 7) (Config.freeWord s.freeCtr .dmiData))
    | 1 => dmiRead s a
    | 2 => dmiWrite s a (dr.extractLsb' 2 32)
    | _ => .refused .dmiReservedOp

/-- Capture of SCU_ACCESS (R507). -/
def scuCapture (s : State) : Nat :=
  s.scu.lastOp.toNat + s.scu.lastAddr.toNat * 4 + s.scu.lastData.toNat * 16

/-- A scan of the data register that IR selects: capture, shift out, update (R503). -/
def drScan (s : State) (dr : BitVec 41) : Result :=
  match s.tap.ir.toNat with
  | 0x01 => .next (s.setTdo s.cfg.idcode.toNat)
  | 0x04 => .next (s.setTdo s.cfg.buildId.toNat)
  | 0x09 =>
    scuAccess (s.setTdo (scuCapture s)) (ScuOp.ofCode (dr.extractLsb' 0 2)) (dr.extractLsb' 2 2) (dr.extractLsb' 4 4)
  | 0x10 => .next (dtmcsUpdate (s.setTdo (dtmcsCapture s)) dr)
  | 0x11 => dmiUpdate (s.setTdo (dmiCapture s)) dr
  | _ => .next (s.setTdo 0)

/-! ## Outside events (R630) -/

def State.setPins (s : State) (p : Pins) : State := { s with pins := p }

/-- A reset pin changes its level (R642). -/
def setResetPin (p : Pins) (pin : ResetPin) (b : Bool) : Pins :=
  match pin with
  | .pwrup => { p with pwrup := b }
  | .rst => { p with rst := b }
  | .cpu => { p with cpu := b }
  | .trst => { p with trst := b }

/-- What an event does, before the resets it may have raised act. Without `DBG_EN` there is no debugger. A DMI or SCU
event is an access that has reached its unit: it acts while TAP Reset holds the TAPC too, where a scan does nothing, and an IR
scan shifts out 1; the model's choice (log 25). -/
def eventEffect (s : State) : HostEvent → Result
  | .run => .next s
  | .softIrq b => .next (s.setPins { s.pins with softIrq := b })
  | .extIrq b => .next (s.setPins { s.pins with extIrq := b })
  | .irqLine n b => .next (s.setPins { s.pins with irqLines := putBit s.pins.irqLines n.val b })
  | .resetPin pin b => .next (s.setPins (setResetPin s.pins pin b))
  | .busWrite a v => .next (if inTcm s.cfg a then s else s.store a v.toNat 1)
  | .dmiRead a => if s.cfg.dbgEn then dmiRead s a else .next s
  | .dmiWrite a v => if s.cfg.dbgEn then dmiWrite s a v else .next s
  | .scu op a d => if s.cfg.dbgEn then scuAccess s op a d else .next s
  | .irScan ir => if s.cfg.dbgEn && !s.tapReset then .next { s with tap := { s.tap with ir := ir, tdo := 1 } } else .next s
  | .drScan dr => if s.cfg.dbgEn && !s.tapReset then drScan s dr else .next s

/-- An event and the resets that follow from it. -/
def hostEvent (e : HostEvent) (s : State) : Result :=
  match eventEffect s e with
  | .next s' => .next (State.settle s s')
  | .fault f => .fault f
  | .refused r => .refused r

end Sys2Proof.Machine
end

