-- ==== Sys2Proof/Machine/Step.lean ====
section
/-! DEFINITION. One step of the machine, and how a word is placed where the next step fetches it. -/
namespace Sys2Proof.Machine

/-- One step: the next outside event if there is one, else the hart; then the clock (R13; log 12). -/
def step (s : State) : Host.Outcome State Fault Refusal :=
  match s.inputs with
  | [] => tickResult (hartStep s)
  | .run :: rest => tickResult (hartStep { s with inputs := rest })
  | e :: rest => tickResult (hostEvent e { s with inputs := rest })

/-- The instruction whose bits are `w` stands at pc (log 12): four bytes, the bits above `nbits` zero. -/
def State.withFetchWord (s : State) (nbits w : Nat) : State :=
  let v : Word := BitVec.ofNat 32 (w % 2 ^ nbits)
  { s with
    mem := (((s.mem.writeByte (addrAt s.pc 0) (byteOf v 0)).writeByte (addrAt s.pc 1) (byteOf v 1)).writeByte
      (addrAt s.pc 2) (byteOf v 2)).writeByte (addrAt s.pc 3) (byteOf v 3)
    stale := [] }

end Sys2Proof.Machine
end

