-- ==== Sys2Proof/Safety.lean ====
section
/-! DEFINITION. The terms the claims use: a legal state, a completed instruction, a trap, an entry to Debug Mode, and
what each leaves unchanged. -/
namespace Sys2Proof.Machine

/-- An outcome that goes on. -/
def completes (r : Result) : Prop := ∃ t, r = .next t

/-! ## Legal states -/

/-- The reserved bits of the machine-mode CSRs read as the spec says (R34 to R45). -/
structure Csrs.Legal (c : Csrs) : Prop where
  mstatus : c.mstatus &&& ~~~0x88 = 0x1800
  mie : c.mie &&& ~~~0x888 = 0
  mtvec : c.mtvec &&& 0x3E = 0
  mepc : c.mepc.getLsbD 0 = false
  mcause : c.mcause &&& ~~~0x8000000F = 0
  mcounten : c.mcounten &&& ~~~0x5 = 0

/-- TIMER_CTRL and TIMER_DIV hold their fields only (R51), and the prescaler is a position inside the DIV+1 period
(R55). -/
structure Timer.Legal (t : Timer) : Prop where
  ctrl : t.ctrl &&& ~~~0x3 = 0
  div : t.div &&& ~~~0x3FF = 0
  prescaler : t.prescaler < t.div.toNat + 1

/-- DCSR: prv and xdebugver are constants, reserved bits read zero (R558). -/
def dcsrLegal (w : Word) : Prop := w &&& ~~~0x89C4 = 0x40000003

/-- A trigger is an MCONTROL or an ICOUNT, and its reserved bits read zero (R571 to R573). -/
def Trigger.Legal (t : Trigger) : Prop :=
  t.tdata1 &&& ~~~0x08101847 = 0x20000000 ∨ t.tdata1 &&& ~~~0x09FFFE01 = 0x30000000

/-- The bits that the configuration hard-wires read as it says: BASE bits outside the writable ones, MODE where only
direct mode exists, MEPC bit 1 (R37, R39, D16, D23). -/
structure Csrs.LegalIn (cfg : Config) (c : Csrs) : Prop where
  base : ∀ k, 6 ≤ k → k < 32 → cfg.mtvecBaseWrMask.getLsbD (k - 6) = false → c.mtvec.getLsbD k = cfg.mtvecBase.getLsbD k
  mode : cfg.mtvecModeEn = false → c.mtvec.getLsbD 0 = false
  mepc : cfg.rvc = false → cfg.mepcBit1Rw = false → c.mepc.getLsbD 1 = false

/-- The hard-wired and reserved bits of every register read as the spec says, the prescaler lies in its period, and TSELECT
names a trigger (R570). -/
structure State.RegsLegal (s : State) : Prop where
  csr : s.csr.Legal
  csrIn : s.csr.LegalIn s.cfg
  tselect : s.tselect = 0 ∨ s.tselect.toNat < s.triggers.length
  timer : s.timer.Legal
  dcsr : dcsrLegal s.dcsr
  triggers : ∀ t ∈ s.triggers, t.Legal

/-- pc, and the reset vector it returns to, are instruction addresses (R26). -/
structure State.PcLegal (s : State) : Prop where
  pc : pcAligned s.cfg s.pc = true
  rstVector : pcAligned s.cfg s.cfg.rstVector = true

/-! ## What stays -/

/-- The units around the hart, the configuration and the outside world are unchanged. -/
structure SameUnits (s t : State) : Prop where
  cfg : t.cfg = s.cfg
  timer : t.timer = s.timer
  ipic : t.ipic = s.ipic
  pins : t.pins = s.pins
  tselect : t.tselect = s.tselect
  triggers : t.triggers = s.triggers
  dm : t.dm = s.dm
  scu : t.scu = s.scu
  tap : t.tap = s.tap
  freeCtr : t.freeCtr = s.freeCtr
  inputs : t.inputs = s.inputs

/-- The debug state of the hart, and whether it waits on the bus, is unchanged. -/
structure SameMode (s t : State) : Prop where
  debugMode : t.debugMode = s.debugMode
  waiting : t.waiting = s.waiting
  dcsr : t.dcsr = s.dcsr
  dpc : t.dpc = s.dpc
  pb : t.pb = s.pb

/-- Every byte of memory reads as before, and the fetch queue's possible old copies are the same. -/
structure SameMemory (s t : State) : Prop where
  bytes : ∀ a : Word, t.byteAt a = s.byteAt a
  stale : t.stale = s.stale

/-- Every general register reads as before. -/
def SameRegs (s t : State) : Prop := ∀ q, t.getReg q = s.getReg q

/-- The CSRs apart from MINSTRET, which counts the retired instruction (R44). -/
def Csrs.retired (c : Csrs) (on : Bool) : Csrs := { c with minstret := if on then c.minstret + 1 else c.minstret }

/-- pc after an instruction of `len` bytes that does not redirect it (R25); the Program Buffer has no pc (R539). -/
def State.nextPc (s : State) (len : Nat) : Word := if s.debugMode then s.pc else s.pc + BitVec.ofNat 32 len

/-- Whether the instruction was the last of the address space: the mark that the next fetch reads (R26; log 13). -/
def State.nextWraps (s : State) (len : Nat) : Bool :=
  if s.debugMode then s.seqWrap else decide (2 ^ 32 ≤ s.pc.toNat + len)

/-! ## What an instruction did -/

/-- `rd` received `v` (x0 discards it, R21), pc moved past `len` bytes, MINSTRET counted, and nothing else changed. -/
structure WritesReg (s t : State) (rd : Reg) (v : Word) (len : Nat) : Prop where
  regs : ∀ q, t.getReg q = if q = rd ∧ rd ≠ 0#5 then v else s.getReg q
  pc : t.pc = s.nextPc len
  seqWrap : t.seqWrap = s.nextWraps len
  csr : t.csr = s.csr.retired s.countsInstret
  sleeping : t.sleeping = s.sleeping
  mode : SameMode s t
  units : SameUnits s t
  memory : SameMemory s t

/-- pc moved past `len` bytes, MINSTRET counted, and nothing else changed. -/
structure Retires (s t : State) (len : Nat) : Prop where
  regs : SameRegs s t
  pc : t.pc = s.nextPc len
  seqWrap : t.seqWrap = s.nextWraps len
  csr : t.csr = s.csr.retired s.countsInstret
  sleeping : t.sleeping = s.sleeping
  mode : SameMode s t
  units : SameUnits s t
  memory : SameMemory s t

/-- Control went to `target`, `rd` received the link address, MINSTRET counted, and nothing else changed. -/
structure Jumps (s t : State) (rd : Reg) (link target : Word) : Prop where
  regs : ∀ q, t.getReg q = if q = rd ∧ rd ≠ 0#5 then link else s.getReg q
  pc : t.pc = target
  seqWrap : t.seqWrap = false
  csr : t.csr = s.csr.retired s.countsInstret
  sleeping : t.sleeping = s.sleeping
  mode : SameMode s t
  units : SameUnits s t
  memory : SameMemory s t

/-- The trap entry of R420 with the vector of R421, at the instruction or boundary whose pc is that of `s`. -/
structure Traps (s t : State) (isInt : Bool) (code : BitVec 4) (tval : Word) : Prop where
  mepc : t.csr.mepc = s.pc &&& (if s.cfg.rvc || s.cfg.mepcBit1Rw then 0xFFFFFFFE else 0xFFFFFFFC)
  mcause : t.csr.mcause = (if isInt then 0x80000000#32 else 0#32) + code.setWidth 32
  mtval : t.csr.mtval = tval
  mpie : t.csr.mstatus.getLsbD 7 = s.csr.mstatus.getLsbD 3
  mie : t.csr.mstatus.getLsbD 3 = false
  mpp : t.csr.mstatus &&& ~~~0x88 = 0x1800
  otherCsrs : { t.csr with
    mepc := s.csr.mepc, mcause := s.csr.mcause, mtval := s.csr.mtval, mstatus := s.csr.mstatus } = s.csr
  pc : t.pc = (s.csr.mtvec &&& 0xFFFFFFC0) +
    (if s.csr.mtvec.extractLsb' 0 2 = 1 ∧ isInt = true then (code ++ 0#2).setWidth 32 else 0#32)
  seqWrap : t.seqWrap = false
  sleeping : t.sleeping = false
  regs : SameRegs s t
  mode : SameMode s t
  units : SameUnits s t
  memory : SameMemory s t

/-- The registers, CSRs, mode, pc and memory of the hart, and what surrounds it apart from the debugger, are unchanged. -/
structure SameHart (s t : State) : Prop where
  regs : SameRegs s t
  csr : t.csr = s.csr
  pc : t.pc = s.pc
  seqWrap : t.seqWrap = s.seqWrap
  sleeping : t.sleeping = s.sleeping
  mode : SameMode s t
  memory : SameMemory s t
  cfg : t.cfg = s.cfg
  timer : t.timer = s.timer
  ipic : t.ipic = s.ipic
  pins : t.pins = s.pins
  tselect : t.tselect = s.tselect
  triggers : t.triggers = s.triggers
  scu : t.scu = s.scu

/-- Debug Mode was entered with a cause and a DPC, and nothing else of the hart changed (R540). -/
structure EntersDebug (s t : State) (cause : BitVec 3) (dpc : Word) : Prop where
  debugMode : t.debugMode = true
  dpc : t.dpc = dpc
  cause : t.dcsr.extractLsb' 6 3 = cause
  otherDcsr : t.dcsr &&& ~~~0x1C0 = s.dcsr &&& ~~~0x1C0
  sleeping : t.sleeping = false
  waiting : t.waiting = s.waiting
  pc : t.pc = s.pc
  seqWrap : t.seqWrap = false
  csr : t.csr = s.csr
  regs : SameRegs s t
  units : SameUnits s t
  memory : SameMemory s t

/-! ## What a reset did -/

/-- The hart, the timer and the IPIC hold their reset values, the general registers where `MPRF_RST_EN` is on, and no bus
transaction is in flight; memory, configuration and pins but the one of the event are not touched (R60, R650 to R652). -/
structure HartReset (s t : State) : Prop where
  pc : t.pc = s.cfg.rstVector
  seqWrap : t.seqWrap = false
  regs : s.cfg.mprfRstEn = true → ∀ r, t.getReg r = 0
  csr : t.csr = {
    mstatus := 0x1880, mie := 0, mtvec := s.cfg.mtvecBase &&& 0xFFFFFFC0, mscratch := 0, mepc := 0, mcause := 0,
    mtval := 0, mcycle := 0, minstret := 0, mcounten := 0x5 }
  mtime : t.timer.mtime = 0
  mtimecmp : t.timer.mtimecmp = 0
  timerCtrl : t.timer.ctrl = 0x1
  timerDiv : t.timer.div = 0
  ipic : t.ipic = s.cfg.ipicReset
  sleeping : t.sleeping = false
  debugMode : t.debugMode = false
  waiting : t.waiting = false
  stale : t.stale = []
  mem : t.mem = s.mem
  cfg : t.cfg = s.cfg

/-- The debug units of the hart hold their reset values: DCSR, TSELECT, TDATA1 of every trigger, and the cell of DSCRATCH0
(R60, R570 to R573, R650). -/
structure HduReset (s t : State) : Prop where
  dcsr : t.dcsr = 0x40000003
  tselect : t.tselect = 0
  tdata1 : t.triggers.map (·.tdata1) =
    if s.cfg.dbgEn && s.cfg.tduEn then
      List.replicate s.cfg.tduTrigNum 0x20000000 ++ (if s.cfg.tduIcountEn then [0x30000400] else [])
    else []
  dscratch0 : t.dm.data0 = 0

/-- The debug units of the hart are kept (R513, R650). -/
structure HduKept (s t : State) : Prop where
  dcsr : t.dcsr = s.dcsr
  dpc : t.dpc = s.dpc
  tselect : t.tselect = s.tselect
  triggers : t.triggers = s.triggers

/-! ## Hypotheses on the state -/

/-- `a` is aligned for `n` bytes and a load, or a store, there is answered by memory: the TCM, or an outside responder
that answers without error (R106, R110). -/
def RamAt (s : State) (store : Bool) (a : Word) (n : Nat) : Prop :=
  a.toNat % n = 0 ∧ inTimer s.cfg a = false ∧
    (inTcm s.cfg a = true ∨ (inData s.cfg.dmemHang a n store = false ∧ inData s.cfg.dmemErr a n store = false))

/-- An aligned access there goes to an outside responder that answers it with an error (R106). -/
def ErrorAt (s : State) (store : Bool) (a : Word) (n : Nat) : Prop :=
  a.toNat % n = 0 ∧ inTimer s.cfg a = false ∧ inTcm s.cfg a = false ∧ inData s.cfg.dmemHang a n store = false ∧
    inData s.cfg.dmemErr a n store = true

/-- An aligned access there goes to an outside responder that never answers it (R106, R614). -/
def HangAt (s : State) (store : Bool) (a : Word) (n : Nat) : Prop :=
  a.toNat % n = 0 ∧ inTimer s.cfg a = false ∧ inTcm s.cfg a = false ∧ inData s.cfg.dmemHang a n store = true

/-- The little-endian halfword and word at `a` (R101). -/
def State.halfAt (s : State) (a : Word) : BitVec 16 := s.byteAt (a + 1) ++ s.byteAt a
def State.wordAt (s : State) (a : Word) : Word := s.byteAt (a + 3) ++ s.byteAt (a + 2) ++ s.byteAt (a + 1) ++ s.byteAt a

/-- The timer register at an offset of its block (R50). -/
def Timer.wordAt (t : Timer) (off : Nat) : Option Word :=
  if off = 0x00 then some t.ctrl
  else if off = 0x04 then some t.div
  else if off = 0x08 then some (t.mtime.extractLsb' 0 32)
  else if off = 0x0C then some (t.mtime.extractLsb' 32 32)
  else if off = 0x10 then some (t.mtimecmp.extractLsb' 0 32)
  else if off = 0x14 then some (t.mtimecmp.extractLsb' 32 32)
  else none

/-- The timer after a word `v` is stored at an offset of its block, when it then ticks aside (R51 to R53, R440, R442). -/
def Timer.stored (t : Timer) (off : Nat) (v : Word) : Option Timer :=
  if off = 0x00 then some { t with ctrl := v &&& 0x3 }
  else if off = 0x04 then some { t with div := v &&& 0x3FF }
  else if off = 0x08 then some { t with mtime := t.mtime.extractLsb' 32 32 ++ v }
  else if off = 0x0C then some { t with mtime := v ++ t.mtime.extractLsb' 0 32 }
  else if off = 0x10 then some { t with mtimecmp := t.mtimecmp.extractLsb' 32 32 ++ v }
  else if off = 0x14 then some { t with mtimecmp := v ++ t.mtimecmp.extractLsb' 0 32 }
  else none

/-- The trigger can neither match nor count: its enable bit is clear (R572, R573). -/
def Trigger.disabled (t : Trigger) : Bool := !(t.isMcontrol && t.mcontrolM) && !(t.isIcount && t.icountM)

/-- Nothing but the triggers keeps the hart from executing the instruction at pc: no outside event, no reset, not waiting
on the bus, no halt request, not asleep, not single-stepped, no interrupt. -/
structure State.ReadyButTriggers (s : State) : Prop where
  inputs : s.inputs = []
  noReset : s.coreReset = false
  running : s.debugMode = false
  noWait : s.waiting = false
  inRange : s.seqWrap = false
  noHalt : s.dm.haltreq = false
  awake : s.sleeping = false
  noStep : s.stepping = false
  noInterrupt : s.csr.mstatus.getLsbD 3 = false ∨ s.wakes = false

/-- The hart is about to execute the instruction at pc and nothing else asks for its attention, no enabled trigger
either. -/
structure State.Ready (s : State) : Prop extends State.ReadyButTriggers s where
  noTrigger : ∀ t ∈ s.triggers, t.disabled = true

/-- The debugger reaches an active Debug Module: it exists and no reset is asserted (R522, R532). -/
structure State.DmReady (s : State) : Prop where
  present : s.cfg.dbgEn = true
  noReset : s.coreReset = false
  noTapReset : s.tapReset = false
  active : s.dm.dmactive = true

/-- As `DmReady`, with the hart halted, not waiting on the bus, no error and no halt request standing: a command is taken
on (R533, R534). -/
structure State.CommandReady (s : State) : Prop where
  dm : s.DmReady
  halted : s.debugMode = true
  noWait : s.waiting = false
  idle : s.dm.busy = false
  noError : s.dm.cmderr = 0
  noHalt : s.dm.haltreq = false

/-- The four bytes at pc, of which the fetch sees no older copy. -/
def State.fetchBytes (s : State) : List Byte :=
  [s.byteAt s.pc, s.byteAt (s.pc + 1), s.byteAt (s.pc + 2), s.byteAt (s.pc + 3)]

/-- The instruction memory answers the words that hold the four bytes at pc (R113), none of them past the top. -/
structure State.Fetchable (s : State) : Prop where
  first : fetchStatus s.cfg s.pc = .ok
  second : fetchStatus s.cfg (s.pc + 2) = .ok
  top : s.pc ≠ 0xFFFFFFFE
  fresh : s.stale = []

/-! ## The CSR instruction forms (R280) -/

/-- The six forms. -/
inductive CsrOp where
  | rw | rs | rc | rwi | rsi | rci
  deriving DecidableEq, Repr

/-- The instruction of a form; `z` is the register number rs1 or the immediate. -/
def CsrOp.instr (op : CsrOp) (rd z : BitVec 5) (csr : BitVec 12) : Instr :=
  match op with
  | .rw => .csrrw rd z csr
  | .rs => .csrrs rd z csr
  | .rc => .csrrc rd z csr
  | .rwi => .csrrwi rd z csr
  | .rsi => .csrrsi rd z csr
  | .rci => .csrrci rd z csr

/-- The source operand: x[rs1], or the zero-extended immediate. -/
def CsrOp.source (op : CsrOp) (s : State) (z : BitVec 5) : Word :=
  match op with
  | .rw | .rs | .rc => s.getReg z
  | .rwi | .rsi | .rci => z.setWidth 32

/-- The form attempts a write: always for CSRRW and CSRRWI, else when the field is not zero. -/
def CsrOp.writes (op : CsrOp) (z : BitVec 5) : Bool :=
  match op with
  | .rw | .rwi => true
  | .rs | .rc | .rsi | .rci => z != 0

/-- The value presented to the CSR, from its old value and the source operand. -/
def CsrOp.value (op : CsrOp) (old src : Word) : Word :=
  match op with
  | .rw | .rwi => src
  | .rs | .rsi => old ||| src
  | .rc | .rci => old &&& ~~~src

/-- The value that `op` with field `z` presents to the CSR at `csr`. -/
def CsrOp.presents (op : CsrOp) (s : State) (z : BitVec 5) (csr : BitVec 12) : Word :=
  op.value (csrRead s csr) (op.source s z)

end Sys2Proof.Machine
end

