-- ==== Sys2Proof/Certificates/Slice0/Obligations.lean ====
section
/-! DEFINITION. The statements for the provers. Each says what the rules it cites say, in the terms of
Sys2Proof/Safety.lean. A statement about an instruction says that it completes, its result and its frame. -/

open Sys2Proof Sys2Proof.Machine

/-! ## Computation (spec/40, spec/44, spec/45) -/

/-- ADDI, SLTI, SLTIU, XORI, ORI, ANDI, the shifts SLLI, SRLI, SRAI by the immediate, and SLL, SRL, SRA by the low five bits
of x[rs2], complete in every state: rd receives the value of the rule (x0 discards it), pc moves past the instruction, MINSTRET
counts it, and nothing else changes (R200, R203 to R211, R214, R218, R219). -/
def Obligations.ImmediateAndShiftResult : Prop :=
  ∀ (s : State) (rd rs1 rs2 : Reg) (imm : BitVec 12) (shamt : BitVec 5),
    (∃ t, exec (.addi rd rs1 imm) s = .next t ∧ WritesReg s t rd (s.getReg rs1 + imm.signExtend 32) 4) ∧
    (∃ t, exec (.slti rd rs1 imm) s = .next t ∧ WritesReg s t rd (if (s.getReg rs1).toInt < imm.toInt then 1 else 0) 4) ∧
    (∃ t, exec (.sltiu rd rs1 imm) s = .next t ∧
      WritesReg s t rd (if (s.getReg rs1).toNat < (imm.signExtend 32).toNat then 1 else 0) 4) ∧
    (∃ t, exec (.xori rd rs1 imm) s = .next t ∧ WritesReg s t rd (s.getReg rs1 ^^^ imm.signExtend 32) 4) ∧
    (∃ t, exec (.ori rd rs1 imm) s = .next t ∧ WritesReg s t rd (s.getReg rs1 ||| imm.signExtend 32) 4) ∧
    (∃ t, exec (.andi rd rs1 imm) s = .next t ∧ WritesReg s t rd (s.getReg rs1 &&& imm.signExtend 32) 4) ∧
    (∃ t, exec (.slli rd rs1 shamt) s = .next t ∧ WritesReg s t rd (s.getReg rs1 <<< shamt.toNat) 4) ∧
    (∃ t, exec (.srli rd rs1 shamt) s = .next t ∧ WritesReg s t rd (s.getReg rs1 >>> shamt.toNat) 4) ∧
    (∃ t, exec (.srai rd rs1 shamt) s = .next t ∧ WritesReg s t rd ((s.getReg rs1).sshiftRight shamt.toNat) 4) ∧
    (∃ t, exec (.sll rd rs1 rs2) s = .next t ∧
      WritesReg s t rd (s.getReg rs1 <<< ((s.getReg rs2).extractLsb' 0 5).toNat) 4) ∧
    (∃ t, exec (.srl rd rs1 rs2) s = .next t ∧
      WritesReg s t rd (s.getReg rs1 >>> ((s.getReg rs2).extractLsb' 0 5).toNat) 4) ∧
    (∃ t, exec (.sra rd rs1 rs2) s = .next t ∧
      WritesReg s t rd ((s.getReg rs1).sshiftRight ((s.getReg rs2).extractLsb' 0 5).toNat) 4)

/-- ADD, SUB, SLT, SLTU, XOR, OR, AND complete in every state: rd receives the value of the rule, and nothing changes but
rd, pc and MINSTRET (R200, R212, R213, R215 to R217, R220, R221). -/
def Obligations.RegisterArithmeticResult : Prop :=
  ∀ (s : State) (rd rs1 rs2 : Reg),
    (∃ t, exec (.add rd rs1 rs2) s = .next t ∧ WritesReg s t rd (s.getReg rs1 + s.getReg rs2) 4) ∧
    (∃ t, exec (.sub rd rs1 rs2) s = .next t ∧ WritesReg s t rd (s.getReg rs1 - s.getReg rs2) 4) ∧
    (∃ t, exec (.slt rd rs1 rs2) s = .next t ∧
      WritesReg s t rd (if (s.getReg rs1).toInt < (s.getReg rs2).toInt then 1 else 0) 4) ∧
    (∃ t, exec (.sltu rd rs1 rs2) s = .next t ∧
      WritesReg s t rd (if (s.getReg rs1).toNat < (s.getReg rs2).toNat then 1 else 0) 4) ∧
    (∃ t, exec (.xor rd rs1 rs2) s = .next t ∧ WritesReg s t rd (s.getReg rs1 ^^^ s.getReg rs2) 4) ∧
    (∃ t, exec (.or rd rs1 rs2) s = .next t ∧ WritesReg s t rd (s.getReg rs1 ||| s.getReg rs2) 4) ∧
    (∃ t, exec (.and rd rs1 rs2) s = .next t ∧ WritesReg s t rd (s.getReg rs1 &&& s.getReg rs2) 4)

/-- LUI completes in every state and AUIPC outside Debug Mode: rd receives the immediate, with pc added for AUIPC, and
nothing changes but rd, pc and MINSTRET (R201, R202); in the Program Buffer, which has no pc, AUIPC is refused, which is
decision D43 of R539 (log 14). -/
def Obligations.UpperImmediateResult : Prop :=
  ∀ (s : State) (rd : Reg) (imm : BitVec 20),
    (∃ t, exec (.lui rd imm) s = .next t ∧ WritesReg s t rd (imm ++ 0#12) 4) ∧
    (s.debugMode = false → ∃ t, exec (.auipc rd imm) s = .next t ∧ WritesReg s t rd (s.pc + (imm ++ 0#12)) 4) ∧
    (s.debugMode = true → exec (.auipc rd imm) s = .refused .pcInProgramBuffer)

/-- MUL, MULH, MULHSU, MULHU complete in every state: rd receives the low or high word of the 64-bit product, and nothing
changes but rd, pc and MINSTRET (R290 to R294). -/
def Obligations.MultiplyResult : Prop :=
  ∀ (s : State) (rd rs1 rs2 : Reg),
    (∃ t, exec (.mul rd rs1 rs2) s = .next t ∧ WritesReg s t rd (s.getReg rs1 * s.getReg rs2) 4) ∧
    (∃ t, exec (.mulh rd rs1 rs2) s = .next t ∧
      WritesReg s t rd (((s.getReg rs1).signExtend 64 * (s.getReg rs2).signExtend 64).extractLsb' 32 32) 4) ∧
    (∃ t, exec (.mulhsu rd rs1 rs2) s = .next t ∧
      WritesReg s t rd (((s.getReg rs1).signExtend 64 * (s.getReg rs2).setWidth 64).extractLsb' 32 32) 4) ∧
    (∃ t, exec (.mulhu rd rs1 rs2) s = .next t ∧
      WritesReg s t rd (((s.getReg rs1).setWidth 64 * (s.getReg rs2).setWidth 64).extractLsb' 32 32) 4)

/-- DIV, DIVU, REM, REMU complete in every state, for a zero divisor and the signed overflow too: rd receives the value
of the rule, and nothing changes but rd, pc and MINSTRET; and for every pair of operands DIV with REM, and DIVU with REMU,
satisfy dividend = divisor * quotient + remainder modulo 2^32 (R290, R295 to R299; R299 is the spec's own inference). -/
def Obligations.DivideResult : Prop :=
  ∀ (s : State) (rd rs1 rs2 : Reg),
    (∃ t, exec (.div rd rs1 rs2) s = .next t ∧
      WritesReg s t rd
        (if s.getReg rs2 = 0 then 0xFFFFFFFF
         else if s.getReg rs1 = 0x80000000 ∧ s.getReg rs2 = 0xFFFFFFFF then 0x80000000
         else BitVec.ofInt 32 ((s.getReg rs1).toInt.tdiv (s.getReg rs2).toInt)) 4) ∧
    (∃ t, exec (.divu rd rs1 rs2) s = .next t ∧
      WritesReg s t rd
        (if s.getReg rs2 = 0 then 0xFFFFFFFF else BitVec.ofNat 32 ((s.getReg rs1).toNat / (s.getReg rs2).toNat)) 4) ∧
    (∃ t, exec (.rem rd rs1 rs2) s = .next t ∧
      WritesReg s t rd
        (if s.getReg rs2 = 0 then s.getReg rs1
         else if s.getReg rs1 = 0x80000000 ∧ s.getReg rs2 = 0xFFFFFFFF then 0
         else BitVec.ofInt 32 ((s.getReg rs1).toInt
           - (s.getReg rs2).toInt * (s.getReg rs1).toInt.tdiv (s.getReg rs2).toInt)) 4) ∧
    (∃ t, exec (.remu rd rs1 rs2) s = .next t ∧
      WritesReg s t rd
        (if s.getReg rs2 = 0 then s.getReg rs1 else BitVec.ofNat 32 ((s.getReg rs1).toNat % (s.getReg rs2).toNat)) 4) ∧
    ∀ rq rr : Reg, rq ≠ 0 → rr ≠ 0 →
      (∃ t u, exec (.div rq rs1 rs2) s = .next t ∧ exec (.rem rr rs1 rs2) s = .next u ∧
        s.getReg rs1 = s.getReg rs2 * t.getReg rq + u.getReg rr) ∧
      (∃ t u, exec (.divu rq rs1 rs2) s = .next t ∧ exec (.remu rr rs1 rs2) s = .next u ∧
        s.getReg rs1 = s.getReg rs2 * t.getReg rq + u.getReg rr)

/-- C.ADDI4SPN, C.ADDI, C.LI, C.ADDI16SP, C.LUI, C.SLLI, C.MV, C.ADD on all the registers, and C.SRLI, C.SRAI, C.ANDI,
C.SUB, C.XOR, C.OR, C.AND on x8 to x15 complete in every state: the destination receives the value of the rule, and
nothing changes but it, pc and MINSTRET (R302, R306, R308 to R317, R321, R324, R327). -/
def Obligations.CompressedArithmeticResult : Prop :=
  ∀ (s : State) (rd rs2 : Reg) (rdc rs2c : RegC) (imm8 : BitVec 8) (imm : BitVec 6) (shamt : BitVec 5),
    let c : Reg := 1#2 ++ rdc
    let a := s.getReg c
    let b := s.getReg (1#2 ++ rs2c)
    let result (i : Instr) (r : Reg) (v : Word) : Prop := ∃ t, exec i s = .next t ∧ WritesReg s t r v 2
    result (.cAddi4spn rdc imm8) c (s.getReg 2 + (imm8 ++ 0#2).setWidth 32) ∧
    result (.cAddi rd imm) rd (s.getReg rd + imm.signExtend 32) ∧
    result (.cLi rd imm) rd (imm.signExtend 32) ∧
    result (.cAddi16sp imm) 2 (s.getReg 2 + (imm ++ 0#4).signExtend 32) ∧
    result (.cLui rd imm) rd ((imm ++ 0#12).signExtend 32) ∧
    result (.cSlli rd shamt) rd (s.getReg rd <<< shamt.toNat) ∧
    result (.cMv rd rs2) rd (s.getReg rs2) ∧
    result (.cAdd rd rs2) rd (s.getReg rd + s.getReg rs2) ∧
    result (.cSrli rdc shamt) c (a >>> shamt.toNat) ∧
    result (.cSrai rdc shamt) c (a.sshiftRight shamt.toNat) ∧
    result (.cAndi rdc imm) c (a &&& imm.signExtend 32) ∧
    result (.cSub rdc rs2c) c (a - b) ∧
    result (.cXor rdc rs2c) c (a ^^^ b) ∧
    result (.cOr rdc rs2c) c (a ||| b) ∧
    result (.cAnd rdc rs2c) c (a &&& b)

/-- C.NOP and FENCE do nothing but retire; FENCE.I empties the fetch queue besides, so that every later fetch sees memory
as it is (R261, R262, R305). -/
def Obligations.NopAndFencesRetire : Prop :=
  ∀ (s : State) (pred succ : BitVec 4),
    (∃ t, exec .cNop s = .next t ∧ Retires s t 2) ∧
    (∃ t, exec (.fence pred succ) s = .next t ∧ Retires s t 4) ∧
    (∃ t, exec .fenceI s = .next t ∧ (∀ a, fetchByte t a = s.byteAt a) ∧ Retires s { t with stale := s.stale } 4)

/-! ## Control transfer (spec/41, spec/45) -/

/-- JAL and JALR to a legal target, and C.J, C.JAL, C.JR, C.JALR with the C extension, outside Debug Mode: the link is the
address of the next instruction, and JALR, C.JR, C.JALR clear bit 0 of their target (R230, R232, R233, R307, R318, R323,
R326). In the Program Buffer, which has no pc, all six are refused, which is decision D43 of R539 (log 14). -/
def Obligations.JumpResult : Prop :=
  ∀ (s : State) (rd rs1 : Reg) (off : BitVec 20) (coff : BitVec 11) (imm : BitVec 12),
    let tj := s.pc + (off ++ 0#1).signExtend 32
    let tr := (s.getReg rs1 + imm.signExtend 32) &&& 0xFFFFFFFE
    let tc := s.pc + (coff ++ 0#1).signExtend 32
    (s.debugMode = false →
      ((s.cfg.rvc = true ∨ tj.getLsbD 1 = false) →
        ∃ t, exec (.jal rd off) s = .next t ∧ Jumps s t rd (s.pc + 4) tj) ∧
      ((s.cfg.rvc = true ∨ tr.getLsbD 1 = false) →
        ∃ t, exec (.jalr rd rs1 imm) s = .next t ∧ Jumps s t rd (s.pc + 4) tr) ∧
      (s.cfg.rvc = true →
        (∃ t, exec (.cJ coff) s = .next t ∧ Jumps s t 0 (s.pc + 2) tc) ∧
        (∃ t, exec (.cJal coff) s = .next t ∧ Jumps s t 1 (s.pc + 2) tc) ∧
        (∃ t, exec (.cJr rs1) s = .next t ∧ Jumps s t 0 (s.pc + 2) (s.getReg rs1 &&& 0xFFFFFFFE)) ∧
        (∃ t, exec (.cJalr rs1) s = .next t ∧ Jumps s t 1 (s.pc + 2) (s.getReg rs1 &&& 0xFFFFFFFE)))) ∧
    (s.debugMode = true →
      ∀ i ∈ [Instr.jal rd off, .jalr rd rs1 imm, .cJ coff, .cJal coff, .cJr rs1, .cJalr rs1],
        exec i s = .refused .pcInProgramBuffer)

/-- BEQ, BNE, BLT, BGE, BLTU, BGEU, C.BEQZ, C.BNEZ: a branch whose condition holds goes to pc plus its offset, one whose
condition fails retires; no branch writes a register (R230, R234 to R239, R319, R320). In the Program Buffer a branch that
would be taken is refused, which is decision D43 of R539 (log 14). -/
def Obligations.BranchResult : Prop :=
  ∀ (s : State) (rs1 rs2 : Reg) (rs1c : RegC) (off : BitVec 12) (coff : BitVec 8),
    let a := s.getReg rs1
    let b := s.getReg rs2
    let ac := s.getReg (1#2 ++ rs1c)
    let outcome (i : Instr) (len : Nat) (target : Word) (c : Prop) : Prop :=
      (¬c → ∃ t, exec i s = .next t ∧ Retires s t len) ∧
      (c → s.debugMode = false → (s.cfg.rvc = true ∨ target.getLsbD 1 = false) →
        ∃ t, exec i s = .next t ∧ Jumps s t 0 0 target) ∧
      (c → s.debugMode = true → exec i s = .refused .pcInProgramBuffer)
    let target := s.pc + (off ++ 0#1).signExtend 32
    let ctarget := s.pc + (coff ++ 0#1).signExtend 32
    outcome (.beq rs1 rs2 off) 4 target (a = b) ∧
    outcome (.bne rs1 rs2 off) 4 target (a ≠ b) ∧
    outcome (.blt rs1 rs2 off) 4 target (a.toInt < b.toInt) ∧
    outcome (.bge rs1 rs2 off) 4 target (b.toInt ≤ a.toInt) ∧
    outcome (.bltu rs1 rs2 off) 4 target (a.toNat < b.toNat) ∧
    outcome (.bgeu rs1 rs2 off) 4 target (b.toNat ≤ a.toNat) ∧
    outcome (.cBeqz rs1c coff) 2 ctarget (ac = 0) ∧
    outcome (.cBnez rs1c coff) 2 ctarget (ac ≠ 0)

/-- Without the C extension a JAL, a JALR and a taken branch to a target with bit 1 set take the trap of code 0 at
themselves, with the target in MTVAL; no register is written (R231). -/
def Obligations.MisalignedTargetTraps : Prop :=
  ∀ (s : State) (rd rs1 rs2 : Reg) (off20 : BitVec 20) (off imm : BitVec 12),
    s.debugMode = false → s.cfg.rvc = false →
    let tj := s.pc + (off20 ++ 0#1).signExtend 32
    let tr := (s.getReg rs1 + imm.signExtend 32) &&& 0xFFFFFFFE
    let tb := s.pc + (off ++ 0#1).signExtend 32
    (tj.getLsbD 1 = true → ∃ t, exec (.jal rd off20) s = .next t ∧ Traps s t false 0 tj) ∧
    (tr.getLsbD 1 = true → ∃ t, exec (.jalr rd rs1 imm) s = .next t ∧ Traps s t false 0 tr) ∧
    (tb.getLsbD 1 = true →
      (s.getReg rs1 = s.getReg rs2 → ∃ t, exec (.beq rs1 rs2 off) s = .next t ∧ Traps s t false 0 tb) ∧
      (s.getReg rs1 ≠ s.getReg rs2 → ∃ t, exec (.bne rs1 rs2 off) s = .next t ∧ Traps s t false 0 tb) ∧
      ((s.getReg rs1).toInt < (s.getReg rs2).toInt →
        ∃ t, exec (.blt rs1 rs2 off) s = .next t ∧ Traps s t false 0 tb) ∧
      ((s.getReg rs2).toInt ≤ (s.getReg rs1).toInt →
        ∃ t, exec (.bge rs1 rs2 off) s = .next t ∧ Traps s t false 0 tb) ∧
      ((s.getReg rs1).toNat < (s.getReg rs2).toNat →
        ∃ t, exec (.bltu rs1 rs2 off) s = .next t ∧ Traps s t false 0 tb) ∧
      ((s.getReg rs2).toNat ≤ (s.getReg rs1).toNat →
        ∃ t, exec (.bgeu rs1 rs2 off) s = .next t ∧ Traps s t false 0 tb))

/-! ## Memory (spec/20, spec/42) -/

/-- LB, LH, LW, LBU, LHU, C.LW, C.LWSP from memory: the little-endian value at the effective address, extended, goes to
rd; all of memory reads as before (R110, R250 to R255, R303, R322). -/
def Obligations.LoadResult : Prop :=
  ∀ (s : State) (rd rs1 : Reg) (rdc rs1c : RegC) (imm : BitVec 12) (u5 : BitVec 5) (u6 : BitVec 6),
    let a := s.getReg rs1 + imm.signExtend 32
    let ac := s.getReg (1#2 ++ rs1c) + (u5 ++ 0#2).setWidth 32
    let asp := s.getReg 2 + (u6 ++ 0#2).setWidth 32
    (RamAt s false a 1 → ∃ t, exec (.lb rd rs1 imm) s = .next t ∧ WritesReg s t rd ((s.byteAt a).signExtend 32) 4) ∧
    (RamAt s false a 2 → ∃ t, exec (.lh rd rs1 imm) s = .next t ∧ WritesReg s t rd ((s.halfAt a).signExtend 32) 4) ∧
    (RamAt s false a 4 → ∃ t, exec (.lw rd rs1 imm) s = .next t ∧ WritesReg s t rd (s.wordAt a) 4) ∧
    (RamAt s false a 1 → ∃ t, exec (.lbu rd rs1 imm) s = .next t ∧ WritesReg s t rd ((s.byteAt a).setWidth 32) 4) ∧
    (RamAt s false a 2 → ∃ t, exec (.lhu rd rs1 imm) s = .next t ∧ WritesReg s t rd ((s.halfAt a).setWidth 32) 4) ∧
    (RamAt s false ac 4 → ∃ t, exec (.cLw rdc rs1c u5) s = .next t ∧ WritesReg s t (1#2 ++ rdc) (s.wordAt ac) 2) ∧
    (RamAt s false asp 4 → ∃ t, exec (.cLwsp rd u6) s = .next t ∧ WritesReg s t rd (s.wordAt asp) 2)

/-- SB, SH, SW, C.SW, C.SWSP to memory: the low bytes of the register stand at the effective address, every other byte
reads as before, and nothing else changes (R111, R250, R256 to R258, R304, R328). -/
def Obligations.StoreResult : Prop :=
  ∀ (s : State) (rs1 rs2 : Reg) (rs1c rs2c : RegC) (imm : BitVec 12) (u5 : BitVec 5) (u6 : BitVec 6), s.mem.wf →
    let a := s.getReg rs1 + imm.signExtend 32
    let ac := s.getReg (1#2 ++ rs1c) + (u5 ++ 0#2).setWidth 32
    let asp := s.getReg 2 + (u6 ++ 0#2).setWidth 32
    let words (i : Instr) (at4 v : Word) (len : Nat) : Prop :=
      RamAt s true at4 4 → ∃ t, exec i s = .next t ∧ t.wordAt at4 = v ∧
        (∀ b, b ≠ at4 → b ≠ at4 + 1 → b ≠ at4 + 2 → b ≠ at4 + 3 → t.byteAt b = s.byteAt b) ∧
        Retires s { t with mem := s.mem, stale := s.stale } len
    (RamAt s true a 1 → ∃ t, exec (.sb rs1 rs2 imm) s = .next t ∧ t.byteAt a = (s.getReg rs2).extractLsb' 0 8 ∧
      (∀ b, b ≠ a → t.byteAt b = s.byteAt b) ∧ Retires s { t with mem := s.mem, stale := s.stale } 4) ∧
    (RamAt s true a 2 → ∃ t, exec (.sh rs1 rs2 imm) s = .next t ∧ t.halfAt a = (s.getReg rs2).extractLsb' 0 16 ∧
      (∀ b, b ≠ a → b ≠ a + 1 → t.byteAt b = s.byteAt b) ∧
      Retires s { t with mem := s.mem, stale := s.stale } 4) ∧
    words (.sw rs1 rs2 imm) a (s.getReg rs2) 4 ∧
    words (.cSw rs1c rs2c u5) ac (s.getReg (1#2 ++ rs2c)) 2 ∧
    words (.cSwsp rs2 u6) asp (s.getReg rs2) 2

/-- LW, C.LW, C.LWSP read a timer register; SW, C.SW, C.SWSP write one, of which the writable bits take the value, each
64-bit register half by half (R50 to R53, R110, R111, R442). When the timer ticks after a write is open, the prescaler being a
position inside the DIV+1 period (R55, R440; log 8); a write of MTIMECMP[H] leaves that as it was, which is the model's choice
(log 8). At the offsets 0x18 and 0x1C they are refused, which is decision D24 of R50 (log 14). -/
def Obligations.TimerRegisterAccess : Prop :=
  ∀ (s : State) (rd rs1 rs2 : Reg) (rdc rs1c : RegC) (imm : BitVec 12) (u5 : BitVec 5) (u6 : BitVec 6),
    let loads (i : Instr) (a : Word) (r : Reg) (len : Nat) : Prop :=
      a.toNat % 4 = 0 → inTimer s.cfg a = true → ∀ v, s.timer.wordAt (a &&& 0x1C).toNat = some v →
        ∃ t, exec i s = .next t ∧ WritesReg s t r v len
    let stores (i : Instr) (a v : Word) (len : Nat) : Prop :=
      a.toNat % 4 = 0 → inTimer s.cfg a = true → ∀ tm, s.timer.stored (a &&& 0x1C).toNat v = some tm →
        ∃ t, exec i s = .next t ∧ { t.timer with prescaler := s.timer.prescaler, settle := s.timer.settle } = tm ∧
          (if (a &&& 0x1C).toNat < 0x10 then t.timer.prescaler < tm.div.toNat + 1 else t.timer = tm) ∧
          Retires s { t with timer := s.timer } len
    let hole (i : Instr) (a : Word) : Prop :=
      a.toNat % 4 = 0 → inTimer s.cfg a = true → (a &&& 0x1C = 0x18 ∨ a &&& 0x1C = 0x1C) → exec i s = .refused .timerHole
    loads (.lw rd rs1 imm) (s.getReg rs1 + imm.signExtend 32) rd 4 ∧
    loads (.cLw rdc rs1c u5) (s.getReg (1#2 ++ rs1c) + (u5 ++ 0#2).setWidth 32) (1#2 ++ rdc) 2 ∧
    loads (.cLwsp rd u6) (s.getReg 2 + (u6 ++ 0#2).setWidth 32) rd 2 ∧
    stores (.sw rs1 rs2 imm) (s.getReg rs1 + imm.signExtend 32) (s.getReg rs2) 4 ∧
    stores (.cSw rs1c rdc u5) (s.getReg (1#2 ++ rs1c) + (u5 ++ 0#2).setWidth 32) (s.getReg (1#2 ++ rdc)) 2 ∧
    stores (.cSwsp rs2 u6) (s.getReg 2 + (u6 ++ 0#2).setWidth 32) (s.getReg rs2) 2 ∧
    hole (.lw rd rs1 imm) (s.getReg rs1 + imm.signExtend 32) ∧ hole (.sw rs1 rs2 imm) (s.getReg rs1 + imm.signExtend 32) ∧
    hole (.cLw rdc rs1c u5) (s.getReg (1#2 ++ rs1c) + (u5 ++ 0#2).setWidth 32) ∧
    hole (.cSw rs1c rdc u5) (s.getReg (1#2 ++ rs1c) + (u5 ++ 0#2).setWidth 32) ∧
    hole (.cLwsp rd u6) (s.getReg 2 + (u6 ++ 0#2).setWidth 32) ∧ hole (.cSwsp rs2 u6) (s.getReg 2 + (u6 ++ 0#2).setWidth 32)

/-- A halfword access to an odd address, and a word access to an address whose bits [1:0] are not 00, is not made: it
takes the trap of code 4 (loads) or 6 (stores) with the address in MTVAL (R107, R110, R111, R423). -/
def Obligations.MisalignedAccessTraps : Prop :=
  ∀ (s : State) (rd rs1 rs2 : Reg) (rdc rs1c : RegC) (imm : BitVec 12) (u5 : BitVec 5) (u6 : BitVec 6),
    s.debugMode = false →
    let a := s.getReg rs1 + imm.signExtend 32
    let ac := s.getReg (1#2 ++ rs1c) + (u5 ++ 0#2).setWidth 32
    let asp := s.getReg 2 + (u6 ++ 0#2).setWidth 32
    (a.extractLsb' 0 1 ≠ 0#1 →
      (∃ t, exec (.lh rd rs1 imm) s = .next t ∧ Traps s t false 4 a) ∧
      (∃ t, exec (.lhu rd rs1 imm) s = .next t ∧ Traps s t false 4 a) ∧
      (∃ t, exec (.sh rs1 rs2 imm) s = .next t ∧ Traps s t false 6 a)) ∧
    (a.extractLsb' 0 2 ≠ 0#2 →
      (∃ t, exec (.lw rd rs1 imm) s = .next t ∧ Traps s t false 4 a) ∧
      (∃ t, exec (.sw rs1 rs2 imm) s = .next t ∧ Traps s t false 6 a)) ∧
    (ac.extractLsb' 0 2 ≠ 0#2 →
      (∃ t, exec (.cLw rdc rs1c u5) s = .next t ∧ Traps s t false 4 ac) ∧
      (∃ t, exec (.cSw rs1c rdc u5) s = .next t ∧ Traps s t false 6 ac)) ∧
    (asp.extractLsb' 0 2 ≠ 0#2 →
      (∃ t, exec (.cLwsp rd u6) s = .next t ∧ Traps s t false 4 asp) ∧
      (∃ t, exec (.cSwsp rs2 u6) s = .next t ∧ Traps s t false 6 asp))

/-- Outside Debug Mode the access fault is of the load (code 5) or the store (code 7) itself, with the address in MTVAL: for
a byte or halfword access to a timer register, and for a responder's error (R50, R106, R110, R111, R112, R127, R423); that
a store answered with an error leaves memory as it was is the model's choice (log 4). An access that is never answered
leaves the hart waiting inside the instruction, with nothing else changed (R106, R614; log 34). -/
def Obligations.AccessFaults : Prop :=
  ∀ (s : State) (rd rs1 rs2 : Reg) (rdc rs1c : RegC) (imm : BitVec 12) (u5 : BitVec 5) (u6 : BitVec 6),
    let a := s.getReg rs1 + imm.signExtend 32
    let ac := s.getReg (1#2 ++ rs1c) + (u5 ++ 0#2).setWidth 32
    let asp := s.getReg 2 + (u6 ++ 0#2).setWidth 32
    let each (when_ : Bool → Word → Nat → Prop) (then_ : Instr → BitVec 4 → Word → Prop) : Prop :=
      (when_ false a 1 → then_ (.lb rd rs1 imm) 5 a ∧ then_ (.lbu rd rs1 imm) 5 a) ∧
      (when_ false a 2 → then_ (.lh rd rs1 imm) 5 a ∧ then_ (.lhu rd rs1 imm) 5 a) ∧
      (when_ false a 4 → then_ (.lw rd rs1 imm) 5 a) ∧
      (when_ true a 1 → then_ (.sb rs1 rs2 imm) 7 a) ∧
      (when_ true a 2 → then_ (.sh rs1 rs2 imm) 7 a) ∧
      (when_ true a 4 → then_ (.sw rs1 rs2 imm) 7 a) ∧
      (when_ false ac 4 → then_ (.cLw rdc rs1c u5) 5 ac) ∧ (when_ true ac 4 → then_ (.cSw rs1c rdc u5) 7 ac) ∧
      (when_ false asp 4 → then_ (.cLwsp rd u6) 5 asp) ∧ (when_ true asp 4 → then_ (.cSwsp rs2 u6) 7 asp)
    (s.debugMode = false →
      each (fun store b n => ErrorAt s store b n ∨ (inTimer s.cfg b = true ∧ n ≠ 4 ∧ b.toNat % n = 0))
        (fun i code b => ∃ t, exec i s = .next t ∧ Traps s t false code b)) ∧
    each (HangAt s) (fun i _ _ => exec i s = .next { s with waiting := true })

/-- A load that follows a store to the same address returns the stored value: LW the word, LBU each byte of it, the
least significant at the lowest address (R101, R120). -/
def Obligations.LoadAfterStoreReturnsValue : Prop :=
  ∀ (s : State) (rd rs1 rs2 base : Reg) (imm : BitVec 12), s.mem.wf → rd ≠ 0 →
    let a := s.getReg rs1 + imm.signExtend 32
    RamAt s true a 4 → RamAt s false a 4 →
    ∃ t, exec (.sw rs1 rs2 imm) s = .next t ∧
      (∃ u, exec (.lw rd rs1 imm) t = .next u ∧ u.getReg rd = s.getReg rs2) ∧
      ∀ k : Fin 4, s.getReg base = a + BitVec.ofNat 32 k.val → RamAt s false (a + BitVec.ofNat 32 k.val) 1 →
        ∃ u, exec (.lbu rd base 0) t = .next u ∧ u.getReg rd = ((s.getReg rs2).extractLsb' (8 * k.val) 8).setWidth 32

/-! ## System and CSR instructions (spec/43, spec/60) -/

/-- ECALL and C.ILLEGAL always take their trap outside Debug Mode, of code 11 and 2 with MTVAL zero (R271, R301); in Debug
Mode, where the source calls them undefined, ECALL and MRET are refused, which is decision D31 of R554 (log 14). EBREAK and
C.EBREAK complete in every state: the end of the Program Buffer run in Debug Mode, Debug Mode entry with cause 1 under ebreakm,
else the breakpoint trap (R272, R325, R553). -/
def Obligations.SystemTraps : Prop :=
  ∀ s : State,
    (s.debugMode = false →
      (∃ t, exec .ecall s = .next t ∧ Traps s t false 11 0) ∧
      (∃ t, exec .cIllegal s = .next t ∧ Traps s t false 2 0)) ∧
    (s.debugMode = true → exec .ecall s = .refused .undefinedInDebugMode ∧ exec .mret s = .refused .undefinedInDebugMode) ∧
    ∀ i ∈ [Instr.ebreak, .cEbreak],
      (s.debugMode = true → exec i s = .next { s with pb := .ended }) ∧
      (s.debugMode = false → s.cfg.dbgEn = true → s.dcsr.getLsbD 15 = true →
        ∃ t, exec i s = .next t ∧ EntersDebug s t 1 s.pc) ∧
      (s.debugMode = false → (s.cfg.dbgEn = false ∨ s.dcsr.getLsbD 15 = false) →
        ∃ t, exec i s = .next t ∧ Traps s t false 3 (if s.cfg.mtvalEbreakAddr then s.pc else 0))

/-- MRET: pc takes MEPC, MIE takes MPIE, MPIE becomes 1, it is counted, and nothing else changes (R273, R424). Without the
C extension, to an address with bit 1 set, it is refused, which is decision D23 of R273 (log 14). -/
def Obligations.MretReturns : Prop :=
  ∀ s : State, s.debugMode = false →
    (s.cfg.rvc = false → s.csr.mepc.getLsbD 1 = true → exec .mret s = .refused .misalignedReturn) ∧
    ((s.cfg.rvc = true ∨ s.csr.mepc.getLsbD 1 = false) → ∃ t, exec .mret s = .next t ∧ t.pc = s.csr.mepc &&& 0xFFFFFFFE ∧
      t.csr.mstatus.getLsbD 3 = s.csr.mstatus.getLsbD 7 ∧ t.csr.mstatus.getLsbD 7 = true ∧
      t.csr.mstatus &&& ~~~0x88 = 0x1800 ∧
      { t.csr with mstatus := s.csr.mstatus } = s.csr.retired s.countsInstret ∧
      SameRegs s t ∧ t.seqWrap = false ∧ t.sleeping = s.sleeping ∧ SameMode s t ∧ SameUnits s t ∧ SameMemory s t)

/-- After any trap, exception or interrupt, MRET comes back to the trapped pc with the interrupt enable it had (R420,
R424). -/
def Obligations.TrapThenMretComesBack : Prop :=
  ∀ (s t : State) (isInt : Bool) (code : BitVec 4) (tval : Word), s.debugMode = false → pcAligned s.cfg s.pc = true →
    Traps s t isInt code tval →
    ∃ u, exec .mret t = .next u ∧ u.pc = s.pc ∧ u.csr.mstatus.getLsbD 3 = s.csr.mstatus.getLsbD 3

/-- WFI: a NOP in Debug Mode, when single-stepped, or with an enabled interrupt pending; else the hart sleeps at pc + 4
(R274, R452, R542, R555). -/
def Obligations.WfiSleepsOrRetires : Prop :=
  ∀ s : State,
    (s.debugMode = true ∨ s.stepping = true ∨ s.wakes = true → ∃ t, exec .wfi s = .next t ∧ Retires s t 4) ∧
    (s.debugMode = false → s.stepping = false → s.wakes = false →
      ∃ t, exec .wfi s = .next t ∧ t.sleeping = true ∧ Retires s { t with sleeping := s.sleeping } 4)

/-- What a step of the hart does while it does not execute. A halted hart, a hart that waits on the bus, and a sleeping hart
without an enabled pending interrupt, halt request, reset or event, only let time pass; a sleeping hart with an enabled
pending interrupt executes the instruction at pc awake, where MSTATUS.MIE is clear; and no step, of the hart or of an
outside event, ends asleep with an enabled interrupt pending (R274, R452, R530, R614). That the hart is awake at the end of the
very step in which the interrupt is pending is the model's choice (logs 7 and 31), and that nothing but time, an event or a
reset reaches a hart that waits on the bus is the model's inference (log 34). -/
def Obligations.WaitingHartOnlyLetsTimePass : Prop :=
  (∀ s : State, s.inputs = [] →
    (s.debugMode = true ∨ s.waiting = true → step s = .next s.tick) ∧
    (s.coreReset = false → s.debugMode = false → s.waiting = false → s.seqWrap = false → s.dm.haltreq = false →
      s.sleeping = true →
      (s.wakes = false → step s = .next s.tick) ∧
      (s.wakes = true → s.csr.mstatus.getLsbD 3 = false → step s = step { s with sleeping := false }))) ∧
  ∀ s t : State, step s = .next t → t.coreReset = false → t.wakes = true → t.sleeping = false

/-- The CSR instruction forms that attempt no write read any existing CSR, the IPIC's among them, and write nothing but
rd (R280, R282, R283, R285, R286, R287); a write to MISA or MIP, all of whose fields are quiet read-only, is accepted and
changes nothing (R35, R42). -/
def Obligations.CsrReadForms : Prop :=
  ∀ (op : CsrOp) (rd z : BitVec 5) (csr : BitVec 12) (s : State),
    (csrExists s csr = true ∧ op.writes z = false) ∨ csr = 0x301 ∨ csr = 0x344 →
    ∃ t, exec (op.instr rd z csr) s = .next t ∧ WritesReg s t rd (csrRead s csr) 4

/-- All six forms on the trap CSRs, MSCRATCH and MCOUNTEN: rd receives the old value, the writable fields take the new one,
and nothing else changes (R34, R36 to R41, R45, R280 to R286); that MINSTRET counts a write of MCOUNTEN by the MCOUNTEN
before it is the model's inference (log 26). -/
def Obligations.TrapCsrWrites : Prop :=
  ∀ (op : CsrOp) (rd z : BitVec 5) (s : State), op.writes z = true →
    let v := op.presents s z
    (∃ t, exec (op.instr rd z 0x300) s = .next t ∧ t.csr.mstatus = (v 0x300 &&& 0x88) ||| 0x1800 ∧
      WritesReg s { t with csr := { t.csr with mstatus := s.csr.mstatus } } rd s.csr.mstatus 4) ∧
    (∃ t, exec (op.instr rd z 0x304) s = .next t ∧ t.csr.mie = v 0x304 &&& 0x888 ∧
      WritesReg s { t with csr := { t.csr with mie := s.csr.mie } } rd s.csr.mie 4) ∧
    (∃ t, exec (op.instr rd z 0x340) s = .next t ∧ t.csr.mscratch = v 0x340 ∧
      WritesReg s { t with csr := { t.csr with mscratch := s.csr.mscratch } } rd s.csr.mscratch 4) ∧
    (∃ t, exec (op.instr rd z 0x341) s = .next t ∧
      t.csr.mepc = v 0x341 &&& (if s.cfg.rvc || s.cfg.mepcBit1Rw then 0xFFFFFFFE else 0xFFFFFFFC) ∧
      WritesReg s { t with csr := { t.csr with mepc := s.csr.mepc } } rd s.csr.mepc 4) ∧
    (∃ t, exec (op.instr rd z 0x342) s = .next t ∧ t.csr.mcause = v 0x342 &&& 0x8000000F ∧
      WritesReg s { t with csr := { t.csr with mcause := s.csr.mcause } } rd s.csr.mcause 4) ∧
    (∃ t, exec (op.instr rd z 0x343) s = .next t ∧ t.csr.mtval = v 0x343 ∧
      WritesReg s { t with csr := { t.csr with mtval := s.csr.mtval } } rd s.csr.mtval 4) ∧
    (hasMcounten s.cfg = true → ∃ t, exec (op.instr rd z 0x7E0) s = .next t ∧ t.csr.mcounten = v 0x7E0 &&& 0x5 ∧
      WritesReg s { t with csr := { t.csr with mcounten := s.csr.mcounten } } rd s.csr.mcounten 4)

/-- MTVEC: the bits of BASE that the mask makes writable take the value, the others hold MTVEC_BASE, MODE takes bit 0
where it is writable (R37; the mask is decision D16); MODE 2 and 3 are refused there, which is decision D38 of R37
(log 14). -/
def Obligations.MtvecWrite : Prop :=
  ∀ (op : CsrOp) (rd z : BitVec 5) (s : State), op.writes z = true →
    let v := op.presents s z 0x305
    (s.cfg.mtvecModeEn = true → v.getLsbD 1 = true → exec (op.instr rd z 0x305) s = .refused .mtvecMode) ∧
    (s.cfg.mtvecModeEn = false ∨ v.getLsbD 1 = false →
      ∃ t, exec (op.instr rd z 0x305) s = .next t ∧
        (∀ k, 6 ≤ k → k < 32 → t.csr.mtvec.getLsbD k =
          if s.cfg.mtvecBaseWrMask.getLsbD (k - 6) then v.getLsbD k else s.cfg.mtvecBase.getLsbD k) ∧
        t.csr.mtvec.extractLsb' 1 5 = 0 ∧ t.csr.mtvec.getLsbD 0 = (s.cfg.mtvecModeEn && v.getLsbD 0) ∧
        WritesReg s { t with csr := { t.csr with mtvec := s.csr.mtvec } } rd s.csr.mtvec 4)

/-- MCYCLE[H] and MINSTRET[H] are halves of 64-bit counters, each written alone; whether the instruction that writes
MINSTRET[H] counts itself is open (R43, R44; log 9). -/
def Obligations.CounterWrites : Prop :=
  ∀ (op : CsrOp) (rd z : BitVec 5) (s : State), op.writes z = true → hasCounters s.cfg = true →
    let v := op.presents s z
    let lo (x : BitVec 64) : Word := x.extractLsb' 0 32
    let hi (x : BitVec 64) : Word := x.extractLsb' 32 32
    let cycle (csr : BitVec 12) (new : BitVec 64) (old : Word) : Prop :=
      ∃ t, exec (op.instr rd z csr) s = .next t ∧ t.csr.mcycle = new ∧
        WritesReg s { t with csr := { t.csr with mcycle := s.csr.mcycle } } rd old 4
    let instret (csr : BitVec 12) (new : BitVec 64) (old : Word) : Prop :=
      ∃ t, exec (op.instr rd z csr) s = .next t ∧ (t.csr.minstret = new ∨ t.csr.minstret = new + 1) ∧
        (s.countsInstret = false → t.csr.minstret = new) ∧
        WritesReg s { t with csr := { t.csr with minstret := (s.csr.retired s.countsInstret).minstret } } rd old 4
    cycle 0xB00 (hi s.csr.mcycle ++ v 0xB00) (lo s.csr.mcycle) ∧
    cycle 0xB80 (v 0xB80 ++ lo s.csr.mcycle) (hi s.csr.mcycle) ∧
    instret 0xB02 (hi s.csr.minstret ++ v 0xB02) (lo s.csr.minstret) ∧
    instret 0xB82 (v 0xB82 ++ lo s.csr.minstret) (hi s.csr.minstret)

/-- Outside Debug Mode an access to a CSR that does not exist, and a write to a read-only one, take the illegal
instruction trap with the instruction word in MTVAL; neither the CSR nor rd is written (R29, R280, R423). -/
def Obligations.IllegalCsrAccessTraps : Prop :=
  ∀ (op : CsrOp) (rd z : BitVec 5) (csr : BitVec 12) (s : State), s.debugMode = false →
    (csrExists s csr = false ∨ (op.writes z = true ∧ csr.extractLsb' 10 2 = 3#2)) →
    ∃ t, exec (op.instr rd z csr) s = .next t ∧ Traps s t false 2 (encode32 (op.instr rd z csr))

/-! ## The interrupt controller (spec/61) -/

/-- What reads of the IPIC registers return (R466 to R473), where lowest(S) is the number of the lowest set bit, or the
void vector 16 for the empty set (R461). -/
def Obligations.IpicReads : Prop :=
  (∀ s : State,
    let p := s.ipic
    let c := lowest p.isv
    let i := p.idx.toNat
    csrRead s 0xBF0 = BitVec.ofNat 32 c ∧
    csrRead s 0xBF1 = (if c = 16 then 0 else (BitVec.ofBool (p.ie.getLsbD c) ++ BitVec.ofBool (p.ip.getLsbD c)).setWidth 32) ∧
    csrRead s 0xBF2 = p.ip.setWidth 32 ∧ csrRead s 0xBF3 = p.isv.setWidth 32 ∧
    csrRead s 0xBF4 = 0 ∧ csrRead s 0xBF5 = 0 ∧ csrRead s 0xBF6 = p.idx.setWidth 32 ∧
    csrRead s 0xBF7 = (p.idx ++ 0b0011#4 ++ 0b000#3 ++ BitVec.ofBool (p.isv.getLsbD i) ++ BitVec.ofBool (p.inv.getLsbD i)
      ++ BitVec.ofBool (p.im.getLsbD i) ++ BitVec.ofBool (p.ie.getLsbD i) ++ BitVec.ofBool (p.ip.getLsbD i)).setWidth 32) ∧
  ∀ x : BitVec 16,
    (x = 0 → lowest x = 16) ∧
    (x ≠ 0 → lowest x < 16 ∧ x.getLsbD (lowest x) = true ∧ ∀ j < lowest x, x.getLsbD j = false)

/-- CSRRW or CSRRWI of IPIC_SOI puts the lowest pending enabled vector in service when it is lower than the vector in
service, and takes its pending bit in edge mode, otherwise it changes nothing; of IPIC_EOI takes the vector in service
out of service, and changes no other bit (R470, R471, R475). SOI and EOI nest like a stack: an EOI right after an SOI that
started an interrupt restores the vectors in service, and after the SOI the vector in service is the one it started; the
request to the hart drops when the handler writes SOI, in level mode too (R476, R479). -/
def Obligations.StartAndEndOfInterrupt : Prop :=
  (∀ (op : CsrOp) (rd z : BitVec 5) (s : State), op = .rw ∨ op = .rwi → s.cfg.ipicEn = true →
    let p := s.ipic
    let n := lowest (p.ip &&& p.ie)
    (∃ t, exec (op.instr rd z 0xBF5) s = .next t ∧
      (n < lowest p.isv →
        (∀ v < 16, t.ipic.isv.getLsbD v = (p.isv.getLsbD v || v == n)) ∧
        (∀ v < 16, t.ipic.ip.getLsbD v = (p.ip.getLsbD v && !(v == n && p.im.getLsbD v))) ∧
        { t.ipic with isv := p.isv, ip := p.ip } = p) ∧
      (¬n < lowest p.isv → t.ipic = p) ∧
      WritesReg s { t with ipic := p } rd 0 4) ∧
    (∃ t, exec (op.instr rd z 0xBF4) s = .next t ∧
      (∀ v < 16, t.ipic.isv.getLsbD v = (p.isv.getLsbD v && v != lowest p.isv)) ∧
      { t.ipic with isv := p.isv } = p ∧
      WritesReg s { t with ipic := p } rd 0 4)) ∧
  ∀ p : Ipic, p.soi.request = false ∧
    (lowest (p.ip &&& p.ie) < lowest p.isv →
      p.soi.cisv = lowest (p.ip &&& p.ie) ∧ p.soi.eoi.isv = p.isv ∧ p.soi.eoi.cisv = p.cisv)

/-- CSRRW or CSRRWI of IPIC_ICSR sets the mode bits of the vector IDX and clears its pending bit where bit 0 is written
1 and the vector is in edge mode after the write; of IPIC_IDX sets IDX; of IPIC_IPR clears the edge-mode pending bits
written 1; of IPIC_CICSR sets IE and clears the edge-mode pending bit of the vector in service, if there is one; of IPIC_CISV
and IPIC_ISVR is ignored (R465 to R469, R472, R473, R475; the order inside an IPIC_ICSR write is the model's, log 23). The
set and clear forms that attempt a write to an IPIC register are refused, which is decision D14 of R287 (log 14). -/
def Obligations.IpicRegisterWrites : Prop :=
  ∀ (op : CsrOp) (rd z : BitVec 5) (s : State), op = .rw ∨ op = .rwi → s.cfg.ipicEn = true →
    let p := s.ipic
    let w := op.source s z
    let i := p.idx.toNat
    (∃ t, exec (op.instr rd z 0xBF7) s = .next t ∧
      (∀ v < 16, t.ipic.ie.getLsbD v = if v = i then w.getLsbD 1 else p.ie.getLsbD v) ∧
      (∀ v < 16, t.ipic.im.getLsbD v = if v = i then w.getLsbD 2 else p.im.getLsbD v) ∧
      (∀ v < 16, t.ipic.inv.getLsbD v = if v = i then w.getLsbD 3 else p.inv.getLsbD v) ∧
      (∀ v < 16, t.ipic.isv.getLsbD v = if v = i then w.getLsbD 4 else p.isv.getLsbD v) ∧
      (∀ v < 16, t.ipic.ip.getLsbD v = (p.ip.getLsbD v && !(v == i && w.getLsbD 0 && w.getLsbD 2))) ∧
      t.ipic.prev = p.prev ∧ t.ipic.idx = p.idx ∧
      WritesReg s { t with ipic := p } rd (csrRead s 0xBF7) 4) ∧
    (∃ t, exec (op.instr rd z 0xBF6) s = .next t ∧ t.ipic = { p with idx := w.extractLsb' 0 4 } ∧
      WritesReg s { t with ipic := p } rd (p.idx.setWidth 32) 4) ∧
    (∃ t, exec (op.instr rd z 0xBF2) s = .next t ∧
      (∀ v < 16, t.ipic.ip.getLsbD v = (p.ip.getLsbD v && !(w.getLsbD v && p.im.getLsbD v))) ∧
      { t.ipic with ip := p.ip } = p ∧
      WritesReg s { t with ipic := p } rd (p.ip.setWidth 32) 4) ∧
    (∃ t, exec (op.instr rd z 0xBF1) s = .next t ∧
      (let c := lowest p.isv
       (c = 16 → t.ipic = p) ∧
       (c < 16 →
         (∀ v < 16, t.ipic.ie.getLsbD v = if v = c then w.getLsbD 1 else p.ie.getLsbD v) ∧
         (∀ v < 16, t.ipic.ip.getLsbD v = (p.ip.getLsbD v && !(v == c && w.getLsbD 0 && p.im.getLsbD v))) ∧
         { t.ipic with ie := p.ie, ip := p.ip } = p)) ∧
      WritesReg s { t with ipic := p } rd (csrRead s 0xBF1) 4) ∧
    (∃ t, exec (op.instr rd z 0xBF0) s = .next t ∧ WritesReg s t rd (BitVec.ofNat 32 (lowest p.isv)) 4) ∧
    (∃ t, exec (op.instr rd z 0xBF3) s = .next t ∧ WritesReg s t rd (p.isv.setWidth 32) 4) ∧
    ∀ (q : CsrOp) (csr : BitVec 12), 0xBF0 ≤ csr.toNat → csr.toNat ≤ 0xBF7 → q ≠ .rw → q ≠ .rwi → z ≠ 0 →
      exec (q.instr rd z csr) s = .refused .ipicSetClear

/-! ## Interrupts and the timer (spec/60) -/

/-- The CSR map: which addresses exist, from the configuration and Debug Mode (R30, R46). What the CSRs that no instruction
changes read as: MISA, the identification CSRs, the mirrors of the counters, TINFO (R31 to R33, R35, R43, R44, R575), and
MIP, which shows the pin, the timer comparison and the request of the IPIC or the pin `ext_irq`, and nothing else (R42, R430,
R431, R441, R476). -/
def Obligations.CsrMapAndReadOnlyValues : Prop :=
  ∀ (s : State) (csr : BitVec 12),
    let always : List Nat := [0xC01, 0xC81, 0xF11, 0xF12, 0xF13, 0xF14, 0x300, 0x301, 0x304, 0x305, 0x340, 0x341,
      0x342, 0x343, 0x344]
    let counters : List Nat := [0xC00, 0xC02, 0xC80, 0xC82, 0xB00, 0xB02, 0xB80, 0xB82]
    let triggers : List Nat := [0x7A0, 0x7A1, 0x7A2, 0x7A4]
    let debug : List Nat := [0x7B0, 0x7B1, 0x7B2]
    (csrExists s csr = true ↔
      csr.toNat ∈ always ∨ (csr.toNat ∈ counters ∧ hasCounters s.cfg = true) ∨
      (csr = 0x7E0 ∧ hasMcounten s.cfg = true) ∨
      (csr.toNat ∈ triggers ∧ s.cfg.dbgEn = true ∧ s.cfg.tduEn = true) ∨
      (csr.toNat ∈ debug ∧ s.cfg.dbgEn = true ∧ s.debugMode = true) ∨
      (0xBF0 ≤ csr.toNat ∧ csr.toNat ≤ 0xBF7 ∧ s.cfg.ipicEn = true)) ∧
    (∀ k < 32, (csrRead s 0x301).getLsbD k =
      (k == 30 || (k == 2 && s.cfg.rvc) || (k == 4 && s.cfg.rve) || (k == 8 && !s.cfg.rve) || (k == 12 && s.cfg.rvm) ||
        (k == 23 && s.cfg.misaRvx))) ∧
    csrRead s 0xF11 = s.cfg.mvendorid ∧ csrRead s 0xF12 = 0x00000008 ∧ csrRead s 0xF13 = 0x22011200 ∧
    csrRead s 0xF14 = s.cfg.mhartid ∧
    csrRead s 0xC00 = s.csr.mcycle.extractLsb' 0 32 ∧ csrRead s 0xC80 = s.csr.mcycle.extractLsb' 32 32 ∧
    csrRead s 0xC01 = s.timer.mtime.extractLsb' 0 32 ∧ csrRead s 0xC81 = s.timer.mtime.extractLsb' 32 32 ∧
    csrRead s 0xC02 = s.csr.minstret.extractLsb' 0 32 ∧ csrRead s 0xC82 = s.csr.minstret.extractLsb' 32 32 ∧
    (∀ x, s.triggers[s.tselect.toNat]? = some x →
      (x.tdata1.extractLsb' 28 4 = 2#4 → csrRead s 0x7A4 = 0x4) ∧ (x.tdata1.extractLsb' 28 4 = 3#4 → csrRead s 0x7A4 = 0x8)) ∧
    (s.triggers[s.tselect.toNat]? = none → csrRead s 0x7A4 = 0x1) ∧
    (csrRead s 0x344).getLsbD 3 = s.pins.softIrq ∧
    ((csrRead s 0x344).getLsbD 7 = true ↔ s.timer.mtimecmp.toNat ≤ s.timer.mtime.toNat) ∧
    (s.cfg.ipicEn = true → ((csrRead s 0x344).getLsbD 11 = true ↔
      lowest (s.ipic.ip &&& s.ipic.ie) < lowest s.ipic.isv)) ∧
    (s.cfg.ipicEn = false → (csrRead s 0x344).getLsbD 11 = s.pins.extIrq) ∧
    csrRead s 0x344 &&& ~~~0x888 = 0

/-- Time passes at the end of every step that goes on. While Core Reset is asserted nothing moves; else MCYCLE counts the clock
cycles that pass, how many is not given, in Debug Mode and asleep too, and stands still while MCOUNTEN.CY is 0 (R43, R45, R551;
log 7), and nothing but MCYCLE, the timer, the IPIC, the sleep and the step counter moves. The timer: while it is enabled n
ticks of its clock advance MTIME by the number of whole DIV+1 periods they complete, but for those in which a write settles, any
number of which make it tick, and while it is disabled nothing of it moves (R440; log 8). The IPIC: in level mode the pending bit is the conditioned line, in edge mode an inactive-to-active change sets the bit
and nothing else touches it (R474, R475). -/
def Obligations.TimePasses : Prop :=
  (∀ s : State,
    { s.tick with csr := s.csr, timer := s.timer, ipic := s.ipic, sleeping := s.sleeping, freeCtr := s.freeCtr } = s ∧
    (s.coreReset = true → s.tick.csr = s.csr ∧ s.tick.timer = s.timer ∧ s.tick.ipic = s.ipic ∧ s.tick.sleeping = s.sleeping) ∧
    (s.coreReset = false → ∃ clk rtc free : Nat,
      { s.tick.csr with mcycle := s.csr.mcycle } = s.csr ∧
      (hasMcounten s.cfg = true → s.csr.mcounten.getLsbD 0 = false → s.tick.csr.mcycle = s.csr.mcycle) ∧
      (hasMcounten s.cfg = false ∨ s.csr.mcounten.getLsbD 0 = true →
        s.tick.csr.mcycle = s.csr.mcycle + BitVec.ofNat 64 clk) ∧
      s.tick.timer = s.timer.tick clk rtc free ∧
      s.tick.ipic = if s.cfg.ipicEn then s.ipic.clock s.pins.irqLines else s.ipic)) ∧
  (∀ (t : Timer) (clk rtc free : Nat),
    let u := t.tick clk rtc free
    (t.ctrl.getLsbD 0 = false → u = t) ∧
    (t.ctrl.getLsbD 0 = true →
      let n := if t.ctrl.getLsbD 1 then rtc else clk
      let settling := if n ≤ t.settle then n else t.settle
      ∃ j k, j ≤ settling ∧ u.mtime = t.mtime + BitVec.ofNat 64 (j + k) ∧
        t.prescaler + (n - settling) = k * (t.div.toNat + 1) + u.prescaler ∧ u.prescaler < t.div.toNat + 1 ∧
        u.settle = t.settle - settling ∧ u.ctrl = t.ctrl ∧ u.div = t.div ∧ u.mtimecmp = t.mtimecmp)) ∧
  ∀ (p : Ipic) (lines : BitVec 16) (v : Nat), v < 16 →
    let l := lines.getLsbD v != p.inv.getLsbD v
    (p.im.getLsbD v = false → (p.clock lines).ip.getLsbD v = l) ∧
    (p.im.getLsbD v = true → (p.clock lines).ip.getLsbD v = (p.ip.getLsbD v || (l && !p.prev.getLsbD v))) ∧
    (p.clock lines).prev.getLsbD v = l ∧
    (p.clock lines).ie = p.ie ∧ (p.clock lines).im = p.im ∧ (p.clock lines).inv = p.inv ∧
    (p.clock lines).isv = p.isv ∧ (p.clock lines).idx = p.idx

/-- With MSTATUS.MIE set, a running hart takes the qualifying interrupt with the highest priority, external before
software before timer, instead of the instruction at pc (R412 to R415, R420, R421); that no further instruction runs
before it is the model's choice (log 7). -/
def Obligations.InterruptTakenByPriority : Prop :=
  ∀ s : State, s.inputs = [] → s.coreReset = false → s.debugMode = false → s.waiting = false → s.seqWrap = false →
    s.dm.haltreq = false → s.stepping = false → s.csr.mstatus.getLsbD 3 = true →
    let e := s.csr.mie.getLsbD 11 && s.meip
    let w := s.csr.mie.getLsbD 3 && s.msip
    let m := s.csr.mie.getLsbD 7 && s.mtip
    (e = true → ∃ u : State, step s = .next u.tick ∧ Traps s u true 11 0) ∧
    (e = false → w = true → ∃ u : State, step s = .next u.tick ∧ Traps s u true 3 0) ∧
    (e = false → w = false → m = true → ∃ u : State, step s = .next u.tick ∧ Traps s u true 7 0)

/-! ## The step (spec/20 R113, spec/30, spec/60 R411) -/

/-- When the bytes at pc decode to an instruction, the step executes it and lets time pass. -/
def Obligations.StepRunsDecodedInstruction : Prop :=
  ∀ (s : State) (i : Instr) (rest : List Byte), s.Ready → s.Fetchable →
    decode s.cfg s.fetchBytes = .ok (i, rest) → step s = tickResult (exec i s)

/-- Without a FENCE.I the fetch may see a word as it was before a store to it, or as it is, and nothing else: it takes each
aligned word whole, as memory holds it or as one of the old copies noted in State.stale; the step executes what the bytes so
fetched decode to; and a store that changes a word notes what the word was, and no other word (R113, R125, D21). That a word is
seen whole is the model's choice (log 10). -/
def Obligations.FetchSeesOldOrNewWord : Prop :=
  (∀ (s : State) (a : Word), a &&& 3 = 0 → ∃ w : Word, (w = s.wordAt a ∨ (a.toNat, w) ∈ s.stale) ∧
    ∀ k : Fin 4, fetchByte s (a + BitVec.ofNat 32 k.val) = w.extractLsb' (8 * k.val) 8) ∧
  (∀ (s : State) (i : Instr) (rest : List Byte), s.Ready → fetchStatus s.cfg s.pc = .ok →
    fetchStatus s.cfg (s.pc + 2) = .ok → s.pc ≠ 0xFFFFFFFE →
    decode s.cfg [fetchByte s s.pc, fetchByte s (s.pc + 1), fetchByte s (s.pc + 2), fetchByte s (s.pc + 3)] = .ok (i, rest) →
    step s = tickResult (exec i s)) ∧
  ∀ (s : State) (rs1 rs2 : Reg) (rs1c rs2c : RegC) (imm : BitVec 12) (u5 : BitVec 5) (u6 : BitVec 6),
    let a := s.getReg rs1 + imm.signExtend 32
    let ac := s.getReg (1#2 ++ rs1c) + (u5 ++ 0#2).setWidth 32
    let asp := s.getReg 2 + (u6 ++ 0#2).setWidth 32
    let notes (i : Instr) (b : Word) (n : Nat) : Prop := RamAt s true b n → ∃ t, exec i s = .next t ∧
      let w := b &&& 0xFFFFFFFC
      ∀ c, c ∈ t.stale ↔ c ∈ s.stale ∨ (c = (w.toNat, s.wordAt w) ∧ t.wordAt w ≠ s.wordAt w)
    notes (.sb rs1 rs2 imm) a 1 ∧ notes (.sh rs1 rs2 imm) a 2 ∧ notes (.sw rs1 rs2 imm) a 4 ∧
    notes (.cSw rs1c rs2c u5) ac 4 ∧ notes (.cSwsp rs2 u6) asp 4

/-- Where the bytes at pc decode to no instruction the step takes the illegal instruction trap, with the 32 bits in
MTVAL, or the 16 bits zero-extended for a short one; where the instruction memory answers the word at pc with an error
it takes the instruction access fault, with pc in MTVAL (R113, R160, R163, R423); where the instruction memory never
answers, the hart waits (R106, R614; log 34). The same for the second word of an instruction of 32 bits that lies in two
words, with pc or pc + 2 in MTVAL, which D26 leaves open; one that would reach past the top of the space is refused, which
is decision D11 (log 13). -/
def Obligations.UnexecutableWordTraps : Prop :=
  ∀ s : State, s.Ready →
    let short := s.cfg.rvc = true ∧ (s.byteAt s.pc).extractLsb' 0 2 ≠ 3#2
    (∀ e : DecodeError, s.Fetchable → decode s.cfg s.fetchBytes = .error e →
      ∃ u : State, step s = .next u.tick ∧ Traps s u false 2 (if short then (s.halfAt s.pc).setWidth 32 else s.wordAt s.pc)) ∧
    (fetchStatus s.cfg s.pc = .error → ∃ u : State, step s = .next u.tick ∧ Traps s u false 1 s.pc) ∧
    (fetchStatus s.cfg s.pc = .stuck → step s = .next ({ s with waiting := true } : State).tick) ∧
    (s.pc.getLsbD 1 = true → s.stale = [] → fetchStatus s.cfg s.pc = .ok → ¬short →
      (s.pc = 0xFFFFFFFE → step s = .refused .pcPastTop) ∧
      (s.pc ≠ 0xFFFFFFFE → fetchStatus s.cfg (s.pc + 2) = .error → ∃ u : State, step s = .next u.tick ∧
        Traps s u false 1 (if s.cfg.mtvalStraddlePlus2 then s.pc + 2 else s.pc)) ∧
      (s.pc ≠ 0xFFFFFFFE → fetchStatus s.cfg (s.pc + 2) = .stuck →
        step s = .next ({ s with waiting := true } : State).tick))

/-- Words written out from the encoding tables decode to the instructions they stand for (R148, R152). -/
def Obligations.DecodesListedWords : Prop :=
  decodeTableWord 32 0xFFF10093 = some (.addi 1 2 0xFFF) ∧
  decodeTableWord 32 0xFE209CE3 = some (.bne 1 2 0xFFC) ∧
  decodeTableWord 32 0xFFDFF06F = some (.jal 0 0xFFFFE) ∧
  decodeTableWord 32 0x006280A3 = some (.sb 5 6 1) ∧
  decodeTableWord 32 0x0262A3B3 = some (.mulhsu 7 5 6) ∧
  decodeTableWord 32 0x300472F3 = some (.csrrci 5 8 0x300) ∧
  decodeTableWord 32 0x30200073 = some .mret ∧
  decodeTableWord 16 0x7139 = some (.cAddi16sp 0x3C) ∧
  decodeTableWord 16 0xFD6D = some (.cBnez 2 0xFD)

/-- Decode and encode agree, for every configuration. Every well-formed instruction of it, with every operand at every value the
encoding admits, encodes to bytes that decode to that instruction and leave nothing over (R140 to R153). And whatever bytes
decode to an instruction are the encoding of that instruction, which is a well-formed one of the configuration, with the bytes
left over: the decoder refuses every reserved encoding, every RES and NSE row, every word of no row, and the instructions and
registers that RVE, RVM and RVC take away (R153, R160, R161, R300, R329). -/
def Obligations.DecodeEncodeAgree : Prop :=
  ∀ (cfg : Config) (i : Instr) (rest : List Byte),
    (i.wellFormed cfg = true → decode cfg (encode i ++ rest) = .ok (i, rest)) ∧
    ∀ bytes : List Byte, decode cfg bytes = .ok (i, rest) → i.wellFormed cfg = true ∧ encode i ++ rest = bytes

/-! ## Invariants of every step -/

/-- The memory keeps its canonical form, rising addresses of the 32-bit space and no byte that an unlisted address reads
as: the model's own form (log 4), on which equal memories (R54, R100) are equal data. -/
def Obligations.StepKeepsMemoryCanonical : Prop :=
  ∀ s t : State, s.mem.wf → step s = .next t → t.mem.wf

/-- The hard-wired and reserved bits of MSTATUS, MIE, MTVEC, MEPC, MCAUSE, MCOUNTEN, TIMER_CTRL, TIMER_DIV, DCSR and the
triggers go on reading as the tables and the configuration say, the prescaler stays a position inside the DIV+1 period, and
TSELECT goes on naming a trigger, from every state in which they do (R29, R34 to R45, R51, R55, R558, R570 to R573; what an
unsupported TSELECT leaves is decision D46, log 19). -/
def Obligations.StepKeepsReservedBits : Prop :=
  ∀ s t : State, s.RegsLegal → step s = .next t → t.RegsLegal

/-- pc stays an instruction address, bit 0 being 0 and bits [1:0] being 00 without the C extension, where the reset vector
is one (R26). -/
def Obligations.StepKeepsPcAligned : Prop :=
  ∀ s t : State, s.PcLegal → step s = .next t → t.PcLegal

/-- A step of the hart leaves the debugger's side, the configuration and the pins alone, and while the hart keeps
running it leaves DCSR and DPC alone: they are reached from Debug Mode only (R46, R530, R558, R560). -/
def Obligations.RunningHartLeavesDebuggerAlone : Prop :=
  ∀ s t : State, s.inputs = [] → step s = .next t →
    t.dm = s.dm ∧ t.scu = s.scu ∧ t.tap = s.tap ∧ t.pins = s.pins ∧ t.cfg = s.cfg ∧
    (t.debugMode = false → t.dcsr = s.dcsr ∧ t.dpc = s.dpc)

/-- The three invariants hold at reset: canonical memory, reserved bits, an aligned pc. -/
def Obligations.ResetStateIsLegal : Prop :=
  State.reset.mem.wf ∧ State.reset.RegsLegal ∧ State.reset.PcLegal

/-- The values after reset (R60, R651), in the recommended configuration with its optional counters and registers reset (the
model's choice of configuration: log 1, log 3). That havereset reads 0 right after power-up follows R531 against the Power-Up
cell of R650 (log 22), and that MIP shows the timer alone rests on pins that are low (log 12) and an IPIC at zero (log 5). -/
def Obligations.ResetValues : Prop :=
  State.reset.pc = 0x200 ∧ (∀ r, State.reset.getReg r = 0) ∧
  State.reset.csr = {
    mstatus := 0x1880, mie := 0, mtvec := 0x1C0, mscratch := 0, mepc := 0, mcause := 0, mtval := 0,
    mcycle := 0, minstret := 0, mcounten := 0x5 } ∧
  State.reset.timer.mtime = 0 ∧ State.reset.timer.mtimecmp = 0 ∧ State.reset.timer.ctrl = 0x1 ∧
  State.reset.timer.div = 0 ∧ State.reset.sleeping = false ∧ State.reset.debugMode = false ∧
  State.reset.waiting = false ∧ State.reset.dm = Dm.reset ∧ State.reset.scu = Scu.reset ∧ State.reset.tap.ir = 0x01 ∧
  State.reset.dcsr = 0x40000003 ∧ State.reset.dm.data0 = 0 ∧ State.reset.tselect = 0 ∧
  csrRead State.reset 0x344 = 0x80 ∧
  State.reset.triggers.map (·.tdata1) = [0x20000000, 0x20000000, 0x20000000, 0x20000000, 0x30000400]

/-! ## Resets and the debug subsystem (spec/62, spec/70) -/

/-- An asserted reset pin of the core resets the hart, the timer and the IPIC, leaves the memory, the SCU's control and
mode and the Debug Module's registers alone, sets havereset while the Debug Module is active, and loses a bus transaction in
flight (R522, R531, R650 to R652); the hart debug units follow MODE.hdu_rst_bhv. When within a step it acts (log 24), and
that DATA0 follows DSCRATCH0 (log 16), is the model's choice. -/
def Obligations.CoreResetEvent : Prop :=
  ∀ (s : State) (rest : List HostEvent) (pin : ResetPin), s.inputs = .resetPin pin true :: rest →
    pin = .rst ∨ pin = .cpu → s.pins.pwrup = false → s.scu.control = 0 →
    ∃ t, step s = .next t ∧ HartReset s t ∧ t.inputs = rest ∧
      t.dm.havereset = s.dm.dmactive ∧ { t.dm with havereset := s.dm.havereset, data0 := s.dm.data0 } = s.dm ∧
      t.scu.control = s.scu.control ∧ t.scu.mode = s.scu.mode ∧
      (s.scu.mode.getLsbD 1 = true → HduKept s t ∧ t.dm.data0 = s.dm.data0) ∧
      (s.scu.mode.getLsbD 1 = false → HduReset s t)

/-- Power-Up Reset resets the hart, the timer, the IPIC, the hart debug units, the Debug Module, the SCU and the TAPC (R511, R642,
R650; that havereset stays 0 is log 22, that the SCU takes its last access along log 25). A 1 written by the SCU to
CONTROL.sys_reset or CONTROL.core_reset resets the hart, the timer and the IPIC, keeps SCU and TAPC, and resets the hart debug
units unless MODE.hdu_rst_bhv is 1; sys_reset resets the Debug Module where MODE.dm_rst_bhv is 1, and no other of the two, which
sets havereset while the module is active (R511 to R513, R531, R650). Memory stays (log 4 for Power-Up). When within a step a
reset acts (log 24), and that DATA0 follows DSCRATCH0 (log 16), is the model's choice. -/
def Obligations.PowerUpAndScuResets : Prop :=
  ∀ (s : State) (rest : List HostEvent),
    (s.inputs = .resetPin .pwrup true :: rest →
      ∃ t, step s = .next t ∧ HartReset s t ∧ HduReset s t ∧ t.dm = Dm.reset ∧ t.scu = Scu.reset ∧ t.tap = Tap.reset ∧
        t.inputs = rest) ∧
    ∀ d : BitVec 4, s.inputs = .scu .write 0 d :: rest → s.cfg.dbgEn = true → s.pins.pwrup = false → s.pins.trst = false →
      d.getLsbD 0 = true ∨ d.getLsbD 1 = true →
      let dmGoes := d.getLsbD 0 && s.scu.mode.getLsbD 0
      ∃ t, step s = .next t ∧ HartReset s t ∧ t.inputs = rest ∧ t.scu.control = d ∧ t.scu.mode = s.scu.mode ∧ t.tap = s.tap ∧
        (dmGoes = true → t.dm = Dm.reset) ∧
        (dmGoes = false → t.dm.havereset = s.dm.dmactive ∧
          { t.dm with havereset := s.dm.havereset, data0 := s.dm.data0 } = s.dm) ∧
        (s.scu.mode.getLsbD 1 = true → HduKept s t ∧ (dmGoes = false → t.dm.data0 = s.dm.data0)) ∧
        (s.scu.mode.getLsbD 1 = false → HduReset s t)

/-- A halt request is honoured at the instruction boundary: Debug Mode with cause 3 and DPC = the pc of the next
instruction, asleep or not, nothing else touched (R530, R531, R540); and right when the last reset is released, by its pin, by
the SCU or by ndmreset, before any instruction (R543). That it is honoured at the very first boundary at which it stands is the
model's choice (log 7), and so is that the entry comes as the release of the reset settles (log 24). -/
def Obligations.HaltRequestEntersDebugMode : Prop :=
  ∀ (s : State) (rest : List HostEvent), s.cfg.dbgEn = true →
    (s.dm.haltreq = true → s.inputs = [] → s.coreReset = false → s.debugMode = false → s.waiting = false → s.seqWrap = false →
      (s.csr.mstatus.getLsbD 3 = false ∨ s.wakes = false) → (∀ x ∈ s.triggers, x.disabled = true) →
      ∃ u : State, step s = .next u.tick ∧ EntersDebug s u 3 s.pc) ∧
    (s.coreReset = true →
      let halts : Prop := ∃ u : State, step s = .next u.tick ∧ u.debugMode = true ∧ u.dpc = s.pc ∧
        u.dcsr.extractLsb' 6 3 = 3 ∧ u.pc = s.pc ∧ u.csr = s.csr ∧ u.dm.haltreq = true ∧ SameRegs s u
      (∀ pin : ResetPin, s.inputs = .resetPin pin false :: rest → s.dm.haltreq = true →
        ({ s with pins := setResetPin s.pins pin false } : State).coreReset = false → halts) ∧
      (∀ d : BitVec 4, s.inputs = .scu .write 0 d :: rest → s.tapReset = false → s.dm.haltreq = true →
        ({ s with scu := { s.scu with control := d } } : State).coreReset = false → halts) ∧
      (s.inputs = .dmiWrite 0x10 0x80000001 :: rest → s.tapReset = false → s.dm.dmactive = true → s.dm.busy = false →
        ({ s with dm := { s.dm with ndmreset := false } } : State).coreReset = false → halts))

/-- Writes of DMCONTROL. dmactive 0 puts the module in its reset state; else haltreq, ackhavereset and ndmreset do what R522
says and nothing else changes, but for the reset that ndmreset raises, while a command executes too (R522, R531, R532).
resumereq without haltreq clears resume ack, and resumes a halted hart: pc takes DPC, Debug Mode ends, resume ack is set, the
fetch queue is empty, and registers, CSRs, DCSR and memory are as before (R541). A 1 in haltreq, resumereq or ackhavereset while
a command executes is refused (R533), and so is resume to a misaligned DPC (decision D23 of R541, log 14). The model's own are:
that resume ack is cleared for a running hart too, and that ndmreset written with resumereq wins over it (log 33), that a halted
hart that waits on the bus does not resume (log 34), that the reset of ndmreset acts within the same step (log 24), and that
DATA0 and DSCRATCH0, one cell, are both cleared by that reset where MODE.hdu_rst_bhv is 0, and by dmactive 0 (log 16). -/
def Obligations.DmcontrolWrites : Prop :=
  ∀ (s : State) (rest : List HostEvent) (v : Word), s.inputs = .dmiWrite 0x10 v :: rest → s.DmReady →
    let requests := v.getLsbD 31 || v.getLsbD 30 || v.getLsbD 28
    let resumereq := v.getLsbD 30 && !v.getLsbD 31
    let resumes := resumereq && s.debugMode && !s.waiting
    (v.getLsbD 0 = false → ∃ u : State, step s = .next u.tick ∧ u.dm = Dm.reset ∧ SameHart s u) ∧
    (v.getLsbD 0 = true → s.dm.busy = true → requests = true → step s = .refused .dmRequestDuringCommand) ∧
    (v.getLsbD 0 = true → s.dm.busy = false ∨ requests = false →
      let dm := { s.dm with
        ndmreset := v.getLsbD 1
        haltreq := v.getLsbD 31
        havereset := s.dm.havereset && !v.getLsbD 28
        resumeack := s.dm.resumeack && !resumereq }
      (v.getLsbD 1 = false → resumes = false → ∃ u : State, step s = .next u.tick ∧ SameHart s u ∧ u.dm = dm) ∧
      (v.getLsbD 1 = false → resumes = true → pcAligned s.cfg s.dpc = true →
        ∃ u : State, step s = .next u.tick ∧ u.pc = s.dpc ∧ u.debugMode = false ∧ u.dm = { dm with resumeack := true } ∧
          u.stale = [] ∧ u.csr = s.csr ∧ u.dcsr = s.dcsr ∧ u.dpc = s.dpc ∧ u.mem = s.mem ∧ SameRegs s u) ∧
      (v.getLsbD 1 = false → resumes = true → pcAligned s.cfg s.dpc = false → step s = .refused .misalignedReturn) ∧
      (v.getLsbD 1 = true → ∃ u : State, step s = .next u.tick ∧ u.coreReset = true ∧ HartReset s u ∧
        { u.dm with data0 := s.dm.data0 } = { dm with havereset := true } ∧
        (s.scu.mode.getLsbD 1 = true → HduKept s u ∧ u.dm.data0 = s.dm.data0) ∧
        (s.scu.mode.getLsbD 1 = false → HduReset s u)))

/-- A DMI read returns the register of the Debug Module, as R522 to R529 lay it out, and changes nothing (bit 31 of DMCONTROL
is open, D44); while a command executes, reading DATA or PROGBUF sets cmderr 1 where it is 0 (R526; what it returns is open, log
15); a read of a Reserved address is refused (decision D28 of R521, log 14). -/
def Obligations.DmRegisterReads : Prop :=
  ∀ (s : State) (rest : List HostEvent) (a : BitVec 7), s.inputs = .dmiRead a :: rest → s.DmReady →
    let reads (v : Word) : Prop := ∃ u : State, step s = .next u.tick ∧ u.tap.dmiAddr = a ∧ u.tap.dmiData = v ∧
      { u with tap := s.tap, inputs := s.inputs } = s
    let bit (b : Bool) (k : Nat) : Word := if b then 1#32 <<< k else 0
    (s.dm.busy = false →
      (a = 0x04 → s.dm.autoexec.getLsbD 0 = false → reads s.dm.data0) ∧
      (a = 0x05 → s.dm.autoexec.getLsbD 1 = false → reads s.dm.data1) ∧
      (∀ k : Fin 6, a.toNat = 0x20 + k.val → reads s.dm.progbuf[k])) ∧
    (a = 0x10 → ∃ v, reads v ∧ v &&& 0x7FFFFFFF = bit s.dm.dmactive 0 ||| bit s.dm.ndmreset 1) ∧
    (a = 0x11 → reads (0x00400082 ||| bit s.debugMode 8 ||| bit s.debugMode 9 ||| bit (!s.debugMode) 10 |||
      bit (!s.debugMode) 11 ||| bit s.dm.resumeack 16 ||| bit s.dm.resumeack 17 ||| bit s.dm.havereset 18 |||
      bit s.dm.havereset 19)) ∧
    (a = 0x12 → reads 0x001017B2) ∧
    (a = 0x16 → reads (0x06000002 ||| (s.dm.cmderr.setWidth 32 <<< 8) ||| bit s.dm.busy 12)) ∧
    (a = 0x18 → reads (s.dm.autoexec.setWidth 32)) ∧
    (a = 0x40 → reads (bit s.debugMode 0)) ∧
    (s.dm.busy = true → a = 0x04 ∨ a = 0x05 ∨ (0x20 ≤ a.toNat ∧ a.toNat ≤ 0x25) →
      ∃ u : State, step s = .next u.tick ∧ SameHart s u ∧
        u.dm = { s.dm with cmderr := if s.dm.cmderr = 0 then 1 else s.dm.cmderr }) ∧
    (a.toNat ∉ [0x04, 0x05, 0x10, 0x11, 0x12, 0x16, 0x17, 0x18, 0x20, 0x21, 0x22, 0x23, 0x24, 0x25, 0x40] →
      step s = .refused .dmiReservedAddress)

/-- A DMI write of a register of the Debug Module other than DMCONTROL and COMMAND, no command executing: DATA0, DATA1 (where
ABSTRACTAUTO starts no command) and the words of PROGBUF take the value, a 1 clears its bit of ABSTRACTCS.cmderr, ABSTRACTAUTO
takes its two bits, and DMSTATUS, HARTINFO and HALTSUM0 are read only; nothing else changes (R523 to R529). While a command
executes such a write, and one of COMMAND, sets cmderr 1 where it is 0 and changes no register (R526 to R529; for PROGBUF,
ABSTRACTCS and ABSTRACTAUTO that is log 34). A Reserved address is refused (decision D28 of R521, log 14). While dmactive is 0 a
write changes none of them, and the write of DMCONTROL that sets dmactive sets nothing else (R522; log 22). -/
def Obligations.DmRegisterWrites : Prop :=
  ∀ (s : State) (rest : List HostEvent) (a : BitVec 7) (v : Word), s.inputs = .dmiWrite a v :: rest →
    let leaves (d : Dm) : Prop := ∃ u : State, step s = .next u.tick ∧ u.dm = d ∧ SameHart s u
    (s.DmReady →
      (s.dm.busy = false →
        (a = 0x04 → s.dm.autoexec.getLsbD 0 = false → leaves { s.dm with data0 := v }) ∧
        (a = 0x05 → s.dm.autoexec.getLsbD 1 = false → leaves { s.dm with data1 := v }) ∧
        (∀ k : Fin 6, a.toNat = 0x20 + k.val → leaves { s.dm with progbuf := s.dm.progbuf.set k v }) ∧
        (a = 0x16 → ∃ e : BitVec 3, leaves { s.dm with cmderr := e } ∧
          ∀ k : Fin 3, e.getLsbD k.val = (s.dm.cmderr.getLsbD k.val && !v.getLsbD (8 + k.val))) ∧
        (a = 0x18 → leaves { s.dm with autoexec := v.extractLsb' 0 2 })) ∧
      (a = 0x11 ∨ a = 0x12 ∨ a = 0x40 → leaves s.dm) ∧
      (s.dm.busy = true → a = 0x04 ∨ a = 0x05 ∨ a = 0x16 ∨ a = 0x17 ∨ a = 0x18 ∨ (0x20 ≤ a.toNat ∧ a.toNat ≤ 0x25) →
        leaves { s.dm with cmderr := if s.dm.cmderr = 0 then 1 else s.dm.cmderr }) ∧
      (a.toNat ∉ [0x04, 0x05, 0x10, 0x11, 0x12, 0x16, 0x17, 0x18, 0x20, 0x21, 0x22, 0x23, 0x24, 0x25, 0x40] →
        step s = .refused .dmiReservedAddress)) ∧
    (s.cfg.dbgEn = true → s.coreReset = false → s.tapReset = false → s.dm.dmactive = false → s.dm.busy = false →
      (a.toNat ∈ [0x04, 0x05, 0x11, 0x12, 0x16, 0x17, 0x18, 0x20, 0x21, 0x22, 0x23, 0x24, 0x25, 0x40] → leaves s.dm) ∧
      (a = 0x10 → v.getLsbD 0 = true → leaves { Dm.reset with dmactive := true }))

/-- Single step: after the one instruction, completed or trapped, Debug Mode is entered with cause 4 and DPC = the pc it
left; with stepie clear no interrupt is taken. A step that ends in the flow past the last instruction address is refused, which
is decision D11 of R26 (log 13). Where an address trigger with action 0 fires on that instruction, its breakpoint trap is taken in
full and Debug Mode is entered with cause 2 and DPC at the handler (R542, R577; that DPC is log 19). -/
def Obligations.SingleStepReentersDebugMode : Prop :=
  ∀ s : State, s.inputs = [] → s.coreReset = false → s.debugMode = false → s.waiting = false → s.seqWrap = false →
    s.dm.haltreq = false → s.sleeping = false → s.stepping = true → s.dcsr.getLsbD 11 = false →
    (∀ (t : State) (i : Instr) (rest : List Byte), (∀ x ∈ s.triggers, x.disabled = true) → s.Fetchable →
      decode s.cfg s.fetchBytes = .ok (i, rest) → exec i s = .next t → t.debugMode = false → t.waiting = false →
      (t.seqWrap = false → ∃ u : State, step s = .next u.tick ∧ EntersDebug t u 4 t.pc) ∧
      (t.seqWrap = true → step s = .refused .pcPastTop)) ∧
    ∀ (x : Trigger) (xs : List Trigger), s.triggers = x :: xs → (∀ y ∈ xs, y.disabled = true) → x.isMcontrol = true →
      x.mcontrolM = true → x.chain = false → x.execute = true → x.tdata2 = s.pc → x.tdata1.getLsbD 12 = false →
      ∃ t u : State, step s = .next u.tick ∧
        Traps { s with triggers := { x with tdata1 := x.tdata1 ||| 0x00100000 } :: xs } t false 3
          (if s.cfg.mtvalEbreakAddr then s.pc else 0) ∧ EntersDebug t u 2 t.pc

/-- An exception in Debug Mode has no effect of its own: it only ends the Program Buffer run (R552). -/
def Obligations.DebugModeExceptionChangesNothing : Prop :=
  ∀ (i : Instr) (s t : State), s.debugMode = true → s.pb = .none → exec i s = .next t → t.pb = .exception →
    t = { s with pb := .exception }

/-- An address trigger that is not chained fires before the instruction it matches, by its pc or by the effective address of
its load or store: with action 0 the breakpoint trap, MTVAL being open (D8), with action 1 Debug Mode with cause 2 and DPC =
pc; its hit bit is set (R576, R577). Where one fires by the load or store and the next one by the pc, Debug Mode wins over the
breakpoint, and a breakpoint is that of the pc, which comes first (R411, D10, D50). Of two chained triggers the second one acts,
when both match; the first one, not matching, prevents it, and its own action is ignored (R578; that hit is set in a chained
trigger that matches alone is log 19). -/
def Obligations.AddressTriggersFire : Prop :=
  let hit (x : Trigger) : Trigger := { x with tdata1 := x.tdata1 ||| 0x00100000 }
  let acts (s s' : State) (x : Trigger) : Prop :=
    (x.tdata1.getLsbD 12 = false →
      ∃ u : State, step s = .next u.tick ∧ Traps s' u false 3 (if s.cfg.mtvalEbreakAddr then x.tdata2 else 0)) ∧
    (x.tdata1.getLsbD 12 = true → ∃ u : State, step s = .next u.tick ∧ EntersDebug s' u 2 s.pc)
  (∀ (s : State) (x : Trigger) (xs : List Trigger), s.triggers = x :: xs → x.isMcontrol = true → x.mcontrolM = true →
    x.chain = false → (∀ y ∈ xs, y.disabled = true) → s.ReadyButTriggers →
    (x.execute = true → x.tdata2 = s.pc → acts s { s with triggers := hit x :: xs } x) ∧
    ∀ (i : Instr) (rest : List Byte), s.Fetchable → decode s.cfg s.fetchBytes = .ok (i, rest) →
      (x.load = true ∧ dataAccess s i = .load x.tdata2) ∨ (x.store = true ∧ dataAccess s i = .store x.tdata2) →
      acts s { s with triggers := hit x :: xs } x) ∧
  (∀ (s : State) (rd rs1 rs2 : Reg) (rdc rs1c : RegC) (imm : BitVec 12) (u5 : BitVec 5) (u6 : BitVec 6),
    let a := s.getReg rs1 + imm.signExtend 32
    let ac := s.getReg (1#2 ++ rs1c) + (u5 ++ 0#2).setWidth 32
    let asp := s.getReg 2 + (u6 ++ 0#2).setWidth 32
    (∀ i ∈ [Instr.lb rd rs1 imm, .lh rd rs1 imm, .lw rd rs1 imm, .lbu rd rs1 imm, .lhu rd rs1 imm],
      dataAccess s i = .load a) ∧
    (∀ i ∈ [Instr.sb rs1 rs2 imm, .sh rs1 rs2 imm, .sw rs1 rs2 imm], dataAccess s i = .store a) ∧
    dataAccess s (.cLw rdc rs1c u5) = .load ac ∧ dataAccess s (.cSw rs1c rdc u5) = .store ac ∧
    dataAccess s (.cLwsp rd u6) = .load asp ∧ dataAccess s (.cSwsp rs2 u6) = .store asp) ∧
  (∀ (s : State) (x y : Trigger) (xs : List Trigger) (i : Instr) (rest : List Byte), s.triggers = x :: y :: xs →
    (∀ z ∈ [x, y], z.isMcontrol = true ∧ z.mcontrolM = true ∧ z.chain = false) → (∀ z ∈ xs, z.disabled = true) →
    s.ReadyButTriggers → s.Fetchable → decode s.cfg s.fetchBytes = .ok (i, rest) →
    (x.load = true ∧ dataAccess s i = .load x.tdata2) ∨ (x.store = true ∧ dataAccess s i = .store x.tdata2) →
    y.execute = true → y.tdata2 = s.pc →
    let s' := { s with triggers := hit x :: hit y :: xs }
    (x.tdata1.getLsbD 12 = false → y.tdata1.getLsbD 12 = false →
      ∃ u : State, step s = .next u.tick ∧ Traps s' u false 3 (if s.cfg.mtvalEbreakAddr then s.pc else 0)) ∧
    (x.tdata1.getLsbD 12 = true ∨ y.tdata1.getLsbD 12 = true →
      ∃ u : State, step s = .next u.tick ∧ EntersDebug s' u 2 s.pc)) ∧
  ∀ (s : State) (x y : Trigger) (xs : List Trigger), s.triggers = x :: y :: xs → x.chain = true → y.chain = false →
    (∀ z ∈ [x, y], z.isMcontrol = true ∧ z.mcontrolM = true ∧ z.execute = true ∧ z.load = false ∧ z.store = false) →
    (∀ z ∈ xs, z.disabled = true) → s.ReadyButTriggers →
    (x.tdata2 = s.pc → y.tdata2 = s.pc → acts s { s with triggers := hit x :: hit y :: xs } y) ∧
    ∀ (i : Instr) (rest : List Byte), s.Fetchable → decode s.cfg s.fetchBytes = .ok (i, rest) →
      (x.tdata2 ≠ s.pc → step s = tickResult (exec i s)) ∧
      (x.tdata2 = s.pc → y.tdata2 ≠ s.pc → step s = tickResult (exec i { s with triggers := hit x :: y :: xs }))

/-- The ICOUNT trigger with count 1 fires after the instruction has completed or trapped, with its hit bit set, and its action
comes before the next instruction, whose address MEPC or DPC takes: with action 0 the breakpoint trap, with action 1 Debug
Mode with cause 2; what count then reads is open (R579, D48; log 18). That it fires at once on a WFI that goes to sleep, and
before an interrupt or a halt request that qualifies after that instruction, is the model's choice (log 18); after the flow past
the last instruction address it is refused, which is decision D11 of R26 (log 13). -/
def Obligations.IcountFires : Prop :=
  ∀ (s t : State) (x : Trigger) (xs : List Trigger) (i : Instr) (rest : List Byte), s.triggers = xs ++ [x] →
    x.isIcount = true → x.icountM = true → x.tdata1.extractLsb' 10 14 = 1#14 → x.fired = false →
    (∀ y ∈ xs, y.isMcontrol = true ∧ y.disabled = true) → s.ReadyButTriggers → s.Fetchable →
    decode s.cfg s.fetchBytes = .ok (i, rest) → exec i s = .next t → t.triggers = s.triggers → t.debugMode = false →
    t.waiting = false →
    (t.seqWrap = true → step s = .refused .pcPastTop) ∧
    (t.seqWrap = false → ∃ (u : State) (x' : Trigger), step s = .next u.tick ∧
      (let t' := { t with triggers := xs ++ [x'] }
       x'.tdata1.getLsbD 24 = true ∧ x'.tdata1 &&& ~~~0x01FFFC00 = x.tdata1 &&& ~~~0x01FFFC00 ∧ x'.tdata2 = x.tdata2 ∧
       (x.tdata1.getLsbD 0 = false → Traps t' u false 3 (if s.cfg.mtvalEbreakAddr then t.pc else 0)) ∧
       (x.tdata1.getLsbD 0 = true → EntersDebug t' u 2 t.pc)))

/-- TSELECT takes the index of an existing trigger and keeps its value for any other. TDATA2 of an unprotected trigger, or of any
in Debug Mode, takes any value and no other trigger changes; outside Debug Mode a write to TDATA1 or TDATA2 of a trigger whose
dmode is 1 is ignored (R570, R571, R574; what an index that does not exist leaves is decision D46, log 19). A write to TDATA1 of
such a trigger sets dmode in Debug Mode only, and of an MCONTROL hit, action, chain, m, execute, store and load, of an ICOUNT hit,
count, m and action; the other fields read as fixed and no other trigger changes (R571 to R573). chain is zeroed where dmode
is 0 and the next trigger's is 1, and a write with dmode 1 after a trigger with dmode 0 and chain 1 is ignored (R578; that it is
ignored whole is log 19). A reserved match or action, action 1 with dmode 0, and chain before a trigger that is no MCONTROL are
refused, which is decision D47 of R571 and R578 (log 14). -/
def Obligations.TriggerRegisterWrites : Prop :=
  (∀ (op : CsrOp) (rd z : BitVec 5) (s : State), op.writes z = true → s.cfg.dbgEn = true → s.cfg.tduEn = true →
    (∃ t, exec (op.instr rd z 0x7A0) s = .next t ∧
      t.tselect = (if (op.presents s z 0x7A0).toNat < s.triggers.length then op.presents s z 0x7A0 else s.tselect) ∧
      WritesReg s { t with tselect := s.tselect } rd s.tselect 4) ∧
    (∀ x : Trigger, s.triggers[s.tselect.toNat]? = some x →
      (x.tdata1.getLsbD 27 = false ∨ s.debugMode = true →
        ∃ t, exec (op.instr rd z 0x7A2) s = .next t ∧
          t.triggers = s.triggers.set s.tselect.toNat { x with tdata2 := op.presents s z 0x7A2 } ∧
          WritesReg s { t with triggers := s.triggers } rd x.tdata2 4) ∧
      (x.tdata1.getLsbD 27 = true → s.debugMode = false →
        (∃ t, exec (op.instr rd z 0x7A1) s = .next t ∧ WritesReg s t rd x.tdata1 4) ∧
        (∃ t, exec (op.instr rd z 0x7A2) s = .next t ∧ WritesReg s t rd x.tdata2 4)))) ∧
  ∀ (op : CsrOp) (rd z : BitVec 5) (s : State) (x : Trigger), op.writes z = true → s.cfg.dbgEn = true →
    s.cfg.tduEn = true → s.triggers[s.tselect.toNat]? = some x → x.tdata1.getLsbD 27 = false ∨ s.debugMode = true →
    let v := op.presents s z 0x7A1
    let bit (b : Bool) (k : Nat) : Word := if b then 1#32 <<< k else 0
    let dmode := s.debugMode && v.getLsbD 27
    let isMcontrol (y : Trigger) : Prop := y.tdata1.extractLsb' 28 4 = 2#4
    let next (p : Trigger → Prop) : Prop := ∃ y, s.triggers[s.tselect.toNat + 1]? = some y ∧ p y
    let blocked : Prop := dmode = true ∧ 0 < s.tselect.toNat ∧ ∃ y, s.triggers[s.tselect.toNat - 1]? = some y ∧
      isMcontrol y ∧ y.tdata1.getLsbD 27 = false ∧ y.tdata1.getLsbD 11 = true
    let zeroed : Prop := dmode = false ∧ next (fun y => y.tdata1.getLsbD 27 = true)
    let stores (new : Word) : Prop :=
      ∃ t, exec (op.instr rd z 0x7A1) s = .next t ∧
        t.triggers = s.triggers.set s.tselect.toNat { x with tdata1 := new, fired := false } ∧
        WritesReg s { t with triggers := s.triggers } rd x.tdata1 4
    let refused : Prop := exec (op.instr rd z 0x7A1) s = .refused .triggerReserved
    (isMcontrol x →
      let chain (c : Bool) : Prop := (c = true ↔ v.getLsbD 11 = true ∧ ¬zeroed)
      let reserved (c : Bool) : Prop := v.extractLsb' 7 4 ≠ 0#4 ∨ 1 < (v.extractLsb' 12 4).toNat ∨
        (v.getLsbD 12 = true ∧ dmode = false) ∨ (c = true ∧ ¬next isMcontrol)
      (blocked → ∃ t, exec (op.instr rd z 0x7A1) s = .next t ∧ WritesReg s t rd x.tdata1 4) ∧
      (¬blocked → ∀ c, chain c → (reserved c → refused) ∧
        (¬reserved c → stores (0x20000000 ||| bit dmode 27 ||| (v &&& 0x00101047) ||| bit c 11)))) ∧
    (x.tdata1.extractLsb' 28 4 = 3#4 →
      let action := (v.extractLsb' 0 6).toNat
      (1 < action ∨ (action = 1 ∧ dmode = false) → refused) ∧
      (action = 0 ∨ (action = 1 ∧ dmode = true) → stores (0x30000000 ||| bit dmode 27 ||| (v &&& 0x01FFFE01))))

/-- In the Program Buffer the CSR instructions reach DCSR, of which step, stepie and ebreakm are writable, DPC, and the
cell that DSCRATCH0 shares with DATA0 (R288, R556, R558, R560, R561). -/
def Obligations.DebugCsrWrites : Prop :=
  ∀ (op : CsrOp) (rd z : BitVec 5) (s : State), op.writes z = true → s.cfg.dbgEn = true → s.debugMode = true →
    (∃ t, exec (op.instr rd z 0x7B0) s = .next t ∧
      t.dcsr = (op.presents s z 0x7B0 &&& 0x8804) ||| (s.dcsr &&& 0x1C0) ||| 0x40000003 ∧
      WritesReg s { t with dcsr := s.dcsr } rd s.dcsr 4) ∧
    (∃ t, exec (op.instr rd z 0x7B1) s = .next t ∧ t.dpc = op.presents s z 0x7B1 ∧
      WritesReg s { t with dpc := s.dpc } rd s.dpc 4) ∧
    (∃ t, exec (op.instr rd z 0x7B2) s = .next t ∧ t.dm.data0 = op.presents s z 0x7B2 ∧
      WritesReg s { t with dm := { t.dm with data0 := s.dm.data0 } } rd s.dm.data0 4)

/-- The Access Register command. On a halted hart it copies a general register or an existing CSR into DATA0, or DATA0 into it by
the register's own write rule, and does so again on a write of DATA0 where ABSTRACTAUTO says so; a register that does not exist,
and a write of a read-only CSR, end with cmderr 3 (R29, R528, R535, R536). On a running hart it reads MISA, the identification
CSRs and the pc, and everything else ends with cmderr 4 (R534, R535). What is not supported, cmdtype 1 and above 2 among it, ends
with cmderr 2 (R534, R535); so does, halted or running, the transfer of a regno of 0x1020 and above, by the row of
spec/93_implementation_defined.md section 1.5 on R535 and R536, which the model follows over the last sentence of R536 (log 21).
After a failed command DATA0 and DATA1 are open, after an Access Register DATA1 (R529; log 15). That the pc a running hart gives
is that of the next instruction at the step boundary is the model's choice, R560 leaving it undefined (log 37). While cmderr is
not zero a write of COMMAND is ignored, while a command executes it sets cmderr 1 (R526, R527), and a command started while the
halt request stands is refused (R533; log 14). -/
def Obligations.AccessRegisterCommand : Prop :=
  ∀ (s : State) (rest : List HostEvent) (c v : Word), s.DmReady →
    let reading (regno : Word) : Prop := c = 0x00220000#32 ||| regno
    let writing (regno : Word) : Prop := c = 0x00230000#32 ||| regno
    let gpr (r : Reg) : Word := 0x1000#32 ||| r.setWidth 32
    let hasGpr (r : Reg) : Prop := s.cfg.rve = true → r.toNat < 16
    let fails (e : BitVec 3) : Prop := ∃ u : State, step s = .next u.tick ∧ SameHart s u ∧
      u.dm = { s.dm with command := c, cmderr := e, data0 := u.dm.data0, data1 := u.dm.data1 }
    let reads (w : Word) : Prop := ∃ u : State, step s = .next u.tick ∧ SameHart s u ∧
      u.dm = { s.dm with command := c, data0 := w, data1 := u.dm.data1 }
    let writes (r : Reg) (w : Word) : Prop := ∃ u : State, step s = .next u.tick ∧ SameHart s { u with regs := s.regs } ∧
      u.dm = { s.dm with command := c, data0 := w, data1 := u.dm.data1 } ∧
      ∀ q, u.getReg q = if q = r ∧ r ≠ 0#5 then w else s.getReg q
    (s.inputs = .dmiWrite 0x04 v :: rest → s.CommandReady → s.dm.autoexec.getLsbD 0 = true → s.dm.command = c →
      ∀ r, hasGpr r → writing (gpr r) → writes r v) ∧
    (s.inputs = .dmiWrite 0x17 c :: rest →
      (s.CommandReady →
        (∀ r : Reg,
          (hasGpr r → (reading (gpr r) → reads (s.getReg r)) ∧ (writing (gpr r) → writes r s.dm.data0)) ∧
          (¬hasGpr r → reading (gpr r) ∨ writing (gpr r) → fails 3)) ∧
        (∀ csr : BitVec 12,
          (reading (csr.setWidth 32) → csrExists s csr = true → reads (csrRead s csr)) ∧
          (writing (csr.setWidth 32) → csrExists s csr = true → csrReadOnly csr = false →
            (∀ w, csrWrite s csr s.dm.data0 = .next w → ∃ u : State, step s = .next u.tick ∧
              u.dm = { s.dm with command := c, data1 := u.dm.data1 } ∧
              { u with dm := s.dm, tap := s.tap, inputs := s.inputs } = w) ∧
            (∀ r, csrWrite s csr s.dm.data0 = .refused r → step s = .refused r)) ∧
          (reading (csr.setWidth 32) → csrExists s csr = false → fails 3) ∧
          (writing (csr.setWidth 32) → csrExists s csr = false ∨ csrReadOnly csr = true → fails 3)) ∧
        (∀ regno : BitVec 16, 0x1020 ≤ regno.toNat → reading (regno.setWidth 32) ∨ writing (regno.setWidth 32) →
          fails 2)) ∧
      (s.dm.busy = false → s.dm.cmderr = 0 → s.dm.haltreq = false →
        (c.extractLsb' 24 8 ≠ 0 → c.extractLsb' 24 8 ≠ 2 → fails 2) ∧
        (c.extractLsb' 24 8 = 0 →
          let unsupported := c.getLsbD 19 || c.getLsbD 23 ||
            (c.getLsbD 17 && (c.extractLsb' 20 3 != 2 || decide (0x1020 ≤ (c.extractLsb' 0 16).toNat)))
          let sampled : List (BitVec 16) := [0x301, 0xF11, 0xF12, 0xF13, 0xF14]
          let samples := c.getLsbD 17 && !c.getLsbD 16 && !c.getLsbD 18
          (unsupported = true → fails 2) ∧
          (unsupported = false → s.debugMode = true → s.waiting = false → c.getLsbD 17 = false → c.getLsbD 18 = false →
            reads s.dm.data0) ∧
          (unsupported = false → s.debugMode = false →
            (samples = true → c.extractLsb' 0 16 ∈ sampled → reads (csrRead s (c.extractLsb' 0 12))) ∧
            (samples = true → c.extractLsb' 0 16 = 0x7B1 → reads s.pc) ∧
            (samples = false ∨ c.extractLsb' 0 16 ∉ 0x7B1 :: sampled → fails 4)))) ∧
      (s.dm.busy = false → s.dm.cmderr = 0 → s.dm.haltreq = true → step s = .refused .dmRequestDuringCommand) ∧
      (s.dm.busy = false → s.dm.cmderr ≠ 0 →
        ∃ u : State, step s = .next u.tick ∧ { u with tap := s.tap, inputs := s.inputs } = s) ∧
      (s.dm.busy = true → ∃ u : State, step s = .next u.tick ∧ SameHart s u ∧
        u.dm = { s.dm with cmderr := if s.dm.cmderr = 0 then 1 else s.dm.cmderr }))

/-- The Access Memory command on a halted hart reads a byte, halfword or word at DATA1 into DATA0, zero-extended (D49), or
stores the low bytes of DATA0 there, or reads or writes a timer register by the word, and nothing else changes (R50 to R53, R537;
when the timer ticks after a write is open, but that a write of MTIMECMP[H] leaves it as it was is the model's choice, log 8; the
holes are refused by decision D24, log 14). An access that is misaligned,
answered with an error, or of a byte or halfword of a timer register ends with cmderr 3, an option that is not supported with
cmderr 2, a command on a running hart with cmderr 4; each leaves the hart as it was and DATA0 and DATA1 open (R529, R537, R552;
log 15); that an outside store answered with an error leaves memory as it was is the model's choice (log 4). An access that is
never answered leaves busy set and the hart waiting (R533, R614; log 34). -/
def Obligations.AccessMemoryCommand : Prop :=
  ∀ (s : State) (rest : List HostEvent) (c : Word), s.inputs = .dmiWrite 0x17 c :: rest →
    let fails (e : BitVec 3) : Prop := ∃ u : State, step s = .next u.tick ∧ SameHart s u ∧
      u.dm = { s.dm with command := c, cmderr := e, data0 := u.dm.data0, data1 := u.dm.data1 }
    (s.DmReady → s.dm.busy = false → s.dm.cmderr = 0 → s.dm.haltreq = false → c.extractLsb' 24 8 = 2 →
      let unsupported := c.extractLsb' 0 16 != 0 || c.extractLsb' 17 2 != 0 || c.getLsbD 19 || c.getLsbD 23 ||
        decide (2 < (c.extractLsb' 20 3).toNat)
      (unsupported = true → fails 2) ∧ (unsupported = false → s.debugMode = false → fails 4)) ∧
    ∀ (size : BitVec 2) (write : Bool), size ≠ 3 → s.CommandReady → s.mem.wf →
      c = 0x02000000#32 ||| (size.setWidth 32 <<< 20) ||| (if write then 0x00010000 else 0) →
      let a := s.dm.data1
      let n := 2 ^ size.toNat
      let reads (w : Word) : Prop := ∃ u : State, step s = .next u.tick ∧ SameHart s u ∧
        u.dm = { s.dm with command := c, data0 := w }
      (write = false → RamAt s false a n →
        reads (if size = 0 then (s.byteAt a).setWidth 32 else if size = 1 then (s.halfAt a).setWidth 32 else s.wordAt a)) ∧
      (write = true → RamAt s true a n → ∃ u : State, step s = .next u.tick ∧ u.dm = { s.dm with command := c } ∧
        (∀ k < n, u.byteAt (a + BitVec.ofNat 32 k) = s.dm.data0.extractLsb' (8 * k) 8) ∧
        (∀ b, (∀ k < n, b ≠ a + BitVec.ofNat 32 k) → u.byteAt b = s.byteAt b) ∧
        SameHart s { u with mem := s.mem, stale := s.stale }) ∧
      (size = 2 → a.toNat % 4 = 0 → inTimer s.cfg a = true →
        (write = false → ∀ v, s.timer.wordAt (a &&& 0x1C).toNat = some v → reads v) ∧
        (write = true → ∀ tm, s.timer.stored (a &&& 0x1C).toNat s.dm.data0 = some tm →
          ∃ u : State, step s = .next u.tick ∧ u.dm = { s.dm with command := c } ∧
            { u.timer with prescaler := s.timer.prescaler, settle := s.timer.settle } = tm ∧
            (if (a &&& 0x1C).toNat < 0x10 then u.timer.prescaler < tm.div.toNat + 1 else u.timer = tm) ∧
            SameHart s { u with timer := s.timer }) ∧
        (a &&& 0x1C = 0x18 ∨ a &&& 0x1C = 0x1C → step s = .refused .timerHole)) ∧
      (a.toNat % n ≠ 0 ∨ ErrorAt s write a n ∨ (inTimer s.cfg a = true ∧ n ≠ 4) → fails 3) ∧
      (HangAt s write a n → ∃ u : State, step s = .next u.tick ∧ u.waiting = true ∧
        SameHart s { u with waiting := s.waiting } ∧ u.dm = { s.dm with command := c, busy := true })

/-- The Program Buffer, run by a command with postexec alone: its first instruction executes as it does on the hart; EBREAK
ends the run, an exception ends it with cmderr 3 and no effect of its own, and where the instruction completes and EBREAK
follows, the state is the one it left, time having passed; a run off the end of the buffer ends normally (R535, R538, R552,
R553). That one clock step passes for each instruction is log 28, that DATA1 is then open log 15. -/
def Obligations.ProgramBufferRun : Prop :=
  ∀ (s : State) (rest : List HostEvent), s.inputs = .dmiWrite 0x17 0x00040000 :: rest → s.CommandReady → s.pb = .none →
    (∃ tap : Tap,
      let start := { s with inputs := rest, tap := tap, dm := { s.dm with command := 0x00040000 } }
      ∀ (i : Instr) (t : State), isShort s.cfg (s.dm.progbuf[0].extractLsb' 0 16) = false →
        decodeWindow s.cfg s.dm.progbuf[0] = .ok i → exec i start = .next t → t.waiting = false →
        (t.pb = .none → s.dm.progbuf[1] = 0x00100073 → ∃ u : State, step s = .next u.tick ∧
          { u with dm := { u.dm with data1 := t.dm.data1 } } = t.tick) ∧
        (t.pb = .ended → ∃ u : State, step s = .next u.tick ∧
          { u with dm := { u.dm with data1 := s.dm.data1 } } = start) ∧
        (t.pb = .exception → ∃ u : State, step s = .next u.tick ∧ u.dm.cmderr = 3 ∧ SameHart s u)) ∧
    (s.dm.progbuf = Vector.replicate 6 0x00000013 → ∃ u : State, step s = .next u.tick ∧ u.dm.cmderr = 0 ∧
      u.debugMode = true ∧ u.pc = s.pc ∧ u.dpc = s.dpc ∧ u.mem = s.mem ∧ SameRegs s u)

/-- SCU_ACCESS: WRITE, SET_BITS and CLR_BITS make of CONTROL and MODE what R507 says, STATUS is read only and shows the resets,
STICKY_STATUS collects them and takes CLR_BITS, and READ leaves the register and returns it (R507, R511 to R515). WRITE and
SET_BITS of STICKY_STATUS are refused, which is decision D37 of R515 (log 14). That an operation acts while TAP Reset is asserted
(log 25), and that a reset that stands sets its sticky bit again in the step that cleared it (log 24), is the model's choice. -/
def Obligations.ScuOperations : Prop :=
  ∀ (s : State) (rest : List HostEvent) (op : ScuOp) (a : BitVec 2) (d : BitVec 4), s.cfg.dbgEn = true →
    s.inputs = .scu op a d :: rest → s.pins.pwrup = false →
    let resets (c m : BitVec 4) : BitVec 4 :=
      let sys := s.pins.rst || s.dm.ndmreset || c.getLsbD 0
      let core := sys || s.pins.cpu || c.getLsbD 1
      BitVec.ofBool (core && !m.getLsbD 1) ++ BitVec.ofBool (c.getLsbD 0 && m.getLsbD 0) ++ BitVec.ofBool core ++
        BitVec.ofBool sys
    let new (old : BitVec 4) : BitVec 4 :=
      match op with
      | .write => d
      | .read => old
      | .setBits => d ||| old
      | .clrBits => ~~~d &&& old
    let k := s.scu
    let leaves (control mode sticky : BitVec 4) : Prop := ∃ u : State, step s = .next u.tick ∧
      u.scu.control = control ∧ u.scu.mode = mode ∧ u.scu.sticky = sticky ||| resets control mode ∧ u.scu.lastAddr = a ∧
      (op = .read → u.scu.lastData =
        if a = 0 then k.control else if a = 1 then k.mode else if a = 2 then resets k.control k.mode else k.sticky)
    (a = 0 → leaves (new k.control) k.mode k.sticky) ∧
    (a = 1 → leaves k.control (new k.mode) k.sticky) ∧
    (a = 2 → leaves k.control k.mode k.sticky) ∧
    (a = 3 → op = .read ∨ op = .clrBits → leaves k.control k.mode (new k.sticky)) ∧
    (a = 3 → op = .write ∨ op = .setBits → step s = .refused .scuStickyWrite)

/-- TAP scans, outside every reset: an IR scan loads IR; a scan of IDCODE, BLD_ID, DTMCS, BYPASS or a reserved register shifts
out what R503 to R505 say and changes nothing else; dmireset clears dmistat, and dmihardreset what the next capture of DMI_ACCESS
reports as well; a scan of DMI_ACCESS shifts out the result of the last access and does the read or write it asks for, and a scan
of SCU_ACCESS likewise (R503 to R507). That an IR scan shifts out 1, which no rule gives, that BLD_ID has 32 bits, what
dmihardreset clears, and the grain of whole scans, are the model's choice (log 25); op 3 is refused (R506; log 14). -/
def Obligations.TapScans : Prop :=
  ∀ (s : State) (rest : List HostEvent) (ir : BitVec 5) (d : BitVec 41), s.cfg.dbgEn = true → s.coreReset = false →
    s.tapReset = false →
    let tap := s.tap
    let leaves (x : Tap) : Prop := ∃ u : State, step s = .next u.tick ∧ u.tap = x ∧
      { u with tap := s.tap, inputs := s.inputs } = s
    let acts (out : BitVec 41) (e : HostEvent) : Prop :=
      step s = step { s with tap := { tap with tdo := out }, inputs := e :: rest }
    let dmi : BitVec 41 := tap.dmiAddr ++ tap.dmiData ++ tap.dmistat
    let scu : BitVec 41 := (s.scu.lastData ++ s.scu.lastAddr ++ s.scu.lastOp).setWidth 41
    let dtmcs : BitVec 41 := (tap.dmistat ++ 0x071#10).setWidth 41
    let op := d.extractLsb' 0 2
    (s.inputs = .irScan ir :: rest → leaves { tap with ir := ir, tdo := 1 }) ∧
    (s.inputs = .drScan d :: rest →
      (tap.ir = 0x01 → leaves { tap with tdo := s.cfg.idcode.setWidth 41 }) ∧
      (tap.ir = 0x04 → leaves { tap with tdo := s.cfg.buildId.setWidth 41 }) ∧
      (tap.ir = 0x10 → d.getLsbD 17 = false → d.getLsbD 16 = false → leaves { tap with tdo := dtmcs }) ∧
      (tap.ir = 0x10 → d.getLsbD 17 = false → d.getLsbD 16 = true → leaves { tap with tdo := dtmcs, dmistat := 0 }) ∧
      (tap.ir = 0x10 → d.getLsbD 17 = true → leaves { tap with tdo := dtmcs, dmistat := 0, dmiData := 0, dmiAddr := 0 }) ∧
      (tap.ir = 0x11 → tap.dmistat ≠ 0 → leaves { tap with tdo := dmi }) ∧
      (tap.ir = 0x11 → tap.dmistat = 0 →
        (op = 0 → ∃ x y, leaves { tap with tdo := dmi, dmiAddr := x, dmiData := y }) ∧
        (op = 1 → acts dmi (.dmiRead (d.extractLsb' 34 7))) ∧
        (op = 2 → acts dmi (.dmiWrite (d.extractLsb' 34 7) (d.extractLsb' 2 32))) ∧
        (op = 3 → step s = .refused .dmiReservedOp)) ∧
      (tap.ir = 0x09 →
        (op = 0 → acts scu (.scu .write (d.extractLsb' 2 2) (d.extractLsb' 4 4))) ∧
        (op = 1 → acts scu (.scu .read (d.extractLsb' 2 2) (d.extractLsb' 4 4))) ∧
        (op = 2 → acts scu (.scu .setBits (d.extractLsb' 2 2) (d.extractLsb' 4 4))) ∧
        (op = 3 → acts scu (.scu .clrBits (d.extractLsb' 2 2) (d.extractLsb' 4 4)))) ∧
      (tap.ir ≠ 0x01 → tap.ir ≠ 0x04 → tap.ir ≠ 0x09 → tap.ir ≠ 0x10 → tap.ir ≠ 0x11 → leaves { tap with tdo := 0 }))
end

