-- ==== Sys2Proof/Laws/State.lean ====
section
/-! SUPPORT. One lemma per field for each update of the state: what the update leaves alone. -/
namespace Sys2Proof.Machine

@[simp] theorem State.setReg_cfg (s : State) (r : Reg) (v : Word) : (s.setReg r v).cfg = s.cfg := by unfold State.setReg; split <;> rfl
@[simp] theorem State.setReg_pc (s : State) (r : Reg) (v : Word) : (s.setReg r v).pc = s.pc := by unfold State.setReg; split <;> rfl
@[simp] theorem State.setReg_seqWrap (s : State) (r : Reg) (v : Word) : (s.setReg r v).seqWrap = s.seqWrap := by unfold State.setReg; split <;> rfl
@[simp] theorem State.setReg_sleeping (s : State) (r : Reg) (v : Word) : (s.setReg r v).sleeping = s.sleeping := by unfold State.setReg; split <;> rfl
@[simp] theorem State.setReg_debugMode (s : State) (r : Reg) (v : Word) : (s.setReg r v).debugMode = s.debugMode := by unfold State.setReg; split <;> rfl
@[simp] theorem State.setReg_waiting (s : State) (r : Reg) (v : Word) : (s.setReg r v).waiting = s.waiting := by unfold State.setReg; split <;> rfl
@[simp] theorem State.setReg_stale (s : State) (r : Reg) (v : Word) : (s.setReg r v).stale = s.stale := by unfold State.setReg; split <;> rfl
@[simp] theorem State.setReg_csr (s : State) (r : Reg) (v : Word) : (s.setReg r v).csr = s.csr := by unfold State.setReg; split <;> rfl
@[simp] theorem State.setReg_timer (s : State) (r : Reg) (v : Word) : (s.setReg r v).timer = s.timer := by unfold State.setReg; split <;> rfl
@[simp] theorem State.setReg_ipic (s : State) (r : Reg) (v : Word) : (s.setReg r v).ipic = s.ipic := by unfold State.setReg; split <;> rfl
@[simp] theorem State.setReg_pins (s : State) (r : Reg) (v : Word) : (s.setReg r v).pins = s.pins := by unfold State.setReg; split <;> rfl
@[simp] theorem State.setReg_dcsr (s : State) (r : Reg) (v : Word) : (s.setReg r v).dcsr = s.dcsr := by unfold State.setReg; split <;> rfl
@[simp] theorem State.setReg_dpc (s : State) (r : Reg) (v : Word) : (s.setReg r v).dpc = s.dpc := by unfold State.setReg; split <;> rfl
@[simp] theorem State.setReg_pb (s : State) (r : Reg) (v : Word) : (s.setReg r v).pb = s.pb := by unfold State.setReg; split <;> rfl
@[simp] theorem State.setReg_tselect (s : State) (r : Reg) (v : Word) : (s.setReg r v).tselect = s.tselect := by unfold State.setReg; split <;> rfl
@[simp] theorem State.setReg_triggers (s : State) (r : Reg) (v : Word) : (s.setReg r v).triggers = s.triggers := by unfold State.setReg; split <;> rfl
@[simp] theorem State.setReg_dm (s : State) (r : Reg) (v : Word) : (s.setReg r v).dm = s.dm := by unfold State.setReg; split <;> rfl
@[simp] theorem State.setReg_scu (s : State) (r : Reg) (v : Word) : (s.setReg r v).scu = s.scu := by unfold State.setReg; split <;> rfl
@[simp] theorem State.setReg_tap (s : State) (r : Reg) (v : Word) : (s.setReg r v).tap = s.tap := by unfold State.setReg; split <;> rfl
@[simp] theorem State.setReg_mem (s : State) (r : Reg) (v : Word) : (s.setReg r v).mem = s.mem := by unfold State.setReg; split <;> rfl
@[simp] theorem State.setReg_freeCtr (s : State) (r : Reg) (v : Word) : (s.setReg r v).freeCtr = s.freeCtr := by unfold State.setReg; split <;> rfl
@[simp] theorem State.setReg_inputs (s : State) (r : Reg) (v : Word) : (s.setReg r v).inputs = s.inputs := by unfold State.setReg; split <;> rfl

@[simp] theorem State.storeByte_cfg (s : State) (a : Word) (v : Byte) : (s.storeByte a v).cfg = s.cfg := by rfl
@[simp] theorem State.storeByte_regs (s : State) (a : Word) (v : Byte) : (s.storeByte a v).regs = s.regs := by rfl
@[simp] theorem State.storeByte_pc (s : State) (a : Word) (v : Byte) : (s.storeByte a v).pc = s.pc := by rfl
@[simp] theorem State.storeByte_seqWrap (s : State) (a : Word) (v : Byte) : (s.storeByte a v).seqWrap = s.seqWrap := by rfl
@[simp] theorem State.storeByte_sleeping (s : State) (a : Word) (v : Byte) : (s.storeByte a v).sleeping = s.sleeping := by rfl
@[simp] theorem State.storeByte_debugMode (s : State) (a : Word) (v : Byte) : (s.storeByte a v).debugMode = s.debugMode := by rfl
@[simp] theorem State.storeByte_waiting (s : State) (a : Word) (v : Byte) : (s.storeByte a v).waiting = s.waiting := by rfl
@[simp] theorem State.storeByte_stale (s : State) (a : Word) (v : Byte) : (s.storeByte a v).stale = s.stale := by rfl
@[simp] theorem State.storeByte_csr (s : State) (a : Word) (v : Byte) : (s.storeByte a v).csr = s.csr := by rfl
@[simp] theorem State.storeByte_timer (s : State) (a : Word) (v : Byte) : (s.storeByte a v).timer = s.timer := by rfl
@[simp] theorem State.storeByte_ipic (s : State) (a : Word) (v : Byte) : (s.storeByte a v).ipic = s.ipic := by rfl
@[simp] theorem State.storeByte_pins (s : State) (a : Word) (v : Byte) : (s.storeByte a v).pins = s.pins := by rfl
@[simp] theorem State.storeByte_dcsr (s : State) (a : Word) (v : Byte) : (s.storeByte a v).dcsr = s.dcsr := by rfl
@[simp] theorem State.storeByte_dpc (s : State) (a : Word) (v : Byte) : (s.storeByte a v).dpc = s.dpc := by rfl
@[simp] theorem State.storeByte_pb (s : State) (a : Word) (v : Byte) : (s.storeByte a v).pb = s.pb := by rfl
@[simp] theorem State.storeByte_tselect (s : State) (a : Word) (v : Byte) : (s.storeByte a v).tselect = s.tselect := by rfl
@[simp] theorem State.storeByte_triggers (s : State) (a : Word) (v : Byte) : (s.storeByte a v).triggers = s.triggers := by rfl
@[simp] theorem State.storeByte_dm (s : State) (a : Word) (v : Byte) : (s.storeByte a v).dm = s.dm := by rfl
@[simp] theorem State.storeByte_scu (s : State) (a : Word) (v : Byte) : (s.storeByte a v).scu = s.scu := by rfl
@[simp] theorem State.storeByte_tap (s : State) (a : Word) (v : Byte) : (s.storeByte a v).tap = s.tap := by rfl
@[simp] theorem State.storeByte_freeCtr (s : State) (a : Word) (v : Byte) : (s.storeByte a v).freeCtr = s.freeCtr := by rfl
@[simp] theorem State.storeByte_inputs (s : State) (a : Word) (v : Byte) : (s.storeByte a v).inputs = s.inputs := by rfl

@[simp] theorem State.wait_cfg (s : State) : (s.wait).cfg = s.cfg := by rfl
@[simp] theorem State.wait_regs (s : State) : (s.wait).regs = s.regs := by rfl
@[simp] theorem State.wait_pc (s : State) : (s.wait).pc = s.pc := by rfl
@[simp] theorem State.wait_seqWrap (s : State) : (s.wait).seqWrap = s.seqWrap := by rfl
@[simp] theorem State.wait_sleeping (s : State) : (s.wait).sleeping = s.sleeping := by rfl
@[simp] theorem State.wait_debugMode (s : State) : (s.wait).debugMode = s.debugMode := by rfl
@[simp] theorem State.wait_stale (s : State) : (s.wait).stale = s.stale := by rfl
@[simp] theorem State.wait_csr (s : State) : (s.wait).csr = s.csr := by rfl
@[simp] theorem State.wait_timer (s : State) : (s.wait).timer = s.timer := by rfl
@[simp] theorem State.wait_ipic (s : State) : (s.wait).ipic = s.ipic := by rfl
@[simp] theorem State.wait_pins (s : State) : (s.wait).pins = s.pins := by rfl
@[simp] theorem State.wait_dcsr (s : State) : (s.wait).dcsr = s.dcsr := by rfl
@[simp] theorem State.wait_dpc (s : State) : (s.wait).dpc = s.dpc := by rfl
@[simp] theorem State.wait_pb (s : State) : (s.wait).pb = s.pb := by rfl
@[simp] theorem State.wait_tselect (s : State) : (s.wait).tselect = s.tselect := by rfl
@[simp] theorem State.wait_triggers (s : State) : (s.wait).triggers = s.triggers := by rfl
@[simp] theorem State.wait_dm (s : State) : (s.wait).dm = s.dm := by rfl
@[simp] theorem State.wait_scu (s : State) : (s.wait).scu = s.scu := by rfl
@[simp] theorem State.wait_tap (s : State) : (s.wait).tap = s.tap := by rfl
@[simp] theorem State.wait_mem (s : State) : (s.wait).mem = s.mem := by rfl
@[simp] theorem State.wait_freeCtr (s : State) : (s.wait).freeCtr = s.freeCtr := by rfl
@[simp] theorem State.wait_inputs (s : State) : (s.wait).inputs = s.inputs := by rfl

@[simp] theorem State.countInstr_cfg (s : State) (on : Bool) : (s.countInstr on).cfg = s.cfg := by rfl
@[simp] theorem State.countInstr_regs (s : State) (on : Bool) : (s.countInstr on).regs = s.regs := by rfl
@[simp] theorem State.countInstr_pc (s : State) (on : Bool) : (s.countInstr on).pc = s.pc := by rfl
@[simp] theorem State.countInstr_seqWrap (s : State) (on : Bool) : (s.countInstr on).seqWrap = s.seqWrap := by rfl
@[simp] theorem State.countInstr_sleeping (s : State) (on : Bool) : (s.countInstr on).sleeping = s.sleeping := by rfl
@[simp] theorem State.countInstr_debugMode (s : State) (on : Bool) : (s.countInstr on).debugMode = s.debugMode := by rfl
@[simp] theorem State.countInstr_waiting (s : State) (on : Bool) : (s.countInstr on).waiting = s.waiting := by rfl
@[simp] theorem State.countInstr_stale (s : State) (on : Bool) : (s.countInstr on).stale = s.stale := by rfl
@[simp] theorem State.countInstr_timer (s : State) (on : Bool) : (s.countInstr on).timer = s.timer := by rfl
@[simp] theorem State.countInstr_ipic (s : State) (on : Bool) : (s.countInstr on).ipic = s.ipic := by rfl
@[simp] theorem State.countInstr_pins (s : State) (on : Bool) : (s.countInstr on).pins = s.pins := by rfl
@[simp] theorem State.countInstr_dcsr (s : State) (on : Bool) : (s.countInstr on).dcsr = s.dcsr := by rfl
@[simp] theorem State.countInstr_dpc (s : State) (on : Bool) : (s.countInstr on).dpc = s.dpc := by rfl
@[simp] theorem State.countInstr_pb (s : State) (on : Bool) : (s.countInstr on).pb = s.pb := by rfl
@[simp] theorem State.countInstr_tselect (s : State) (on : Bool) : (s.countInstr on).tselect = s.tselect := by rfl
@[simp] theorem State.countInstr_triggers (s : State) (on : Bool) : (s.countInstr on).triggers = s.triggers := by rfl
@[simp] theorem State.countInstr_dm (s : State) (on : Bool) : (s.countInstr on).dm = s.dm := by rfl
@[simp] theorem State.countInstr_scu (s : State) (on : Bool) : (s.countInstr on).scu = s.scu := by rfl
@[simp] theorem State.countInstr_tap (s : State) (on : Bool) : (s.countInstr on).tap = s.tap := by rfl
@[simp] theorem State.countInstr_mem (s : State) (on : Bool) : (s.countInstr on).mem = s.mem := by rfl
@[simp] theorem State.countInstr_freeCtr (s : State) (on : Bool) : (s.countInstr on).freeCtr = s.freeCtr := by rfl
@[simp] theorem State.countInstr_inputs (s : State) (on : Bool) : (s.countInstr on).inputs = s.inputs := by rfl

@[simp] theorem State.advance_cfg (s : State) (len : Nat) : (s.advance len).cfg = s.cfg := by unfold State.advance; split <;> rfl
@[simp] theorem State.advance_regs (s : State) (len : Nat) : (s.advance len).regs = s.regs := by unfold State.advance; split <;> rfl
@[simp] theorem State.advance_sleeping (s : State) (len : Nat) : (s.advance len).sleeping = s.sleeping := by unfold State.advance; split <;> rfl
@[simp] theorem State.advance_debugMode (s : State) (len : Nat) : (s.advance len).debugMode = s.debugMode := by unfold State.advance; split <;> rfl
@[simp] theorem State.advance_waiting (s : State) (len : Nat) : (s.advance len).waiting = s.waiting := by unfold State.advance; split <;> rfl
@[simp] theorem State.advance_stale (s : State) (len : Nat) : (s.advance len).stale = s.stale := by unfold State.advance; split <;> rfl
@[simp] theorem State.advance_csr (s : State) (len : Nat) : (s.advance len).csr = s.csr := by unfold State.advance; split <;> rfl
@[simp] theorem State.advance_timer (s : State) (len : Nat) : (s.advance len).timer = s.timer := by unfold State.advance; split <;> rfl
@[simp] theorem State.advance_ipic (s : State) (len : Nat) : (s.advance len).ipic = s.ipic := by unfold State.advance; split <;> rfl
@[simp] theorem State.advance_pins (s : State) (len : Nat) : (s.advance len).pins = s.pins := by unfold State.advance; split <;> rfl
@[simp] theorem State.advance_dcsr (s : State) (len : Nat) : (s.advance len).dcsr = s.dcsr := by unfold State.advance; split <;> rfl
@[simp] theorem State.advance_dpc (s : State) (len : Nat) : (s.advance len).dpc = s.dpc := by unfold State.advance; split <;> rfl
@[simp] theorem State.advance_pb (s : State) (len : Nat) : (s.advance len).pb = s.pb := by unfold State.advance; split <;> rfl
@[simp] theorem State.advance_tselect (s : State) (len : Nat) : (s.advance len).tselect = s.tselect := by unfold State.advance; split <;> rfl
@[simp] theorem State.advance_triggers (s : State) (len : Nat) : (s.advance len).triggers = s.triggers := by unfold State.advance; split <;> rfl
@[simp] theorem State.advance_dm (s : State) (len : Nat) : (s.advance len).dm = s.dm := by unfold State.advance; split <;> rfl
@[simp] theorem State.advance_scu (s : State) (len : Nat) : (s.advance len).scu = s.scu := by unfold State.advance; split <;> rfl
@[simp] theorem State.advance_tap (s : State) (len : Nat) : (s.advance len).tap = s.tap := by unfold State.advance; split <;> rfl
@[simp] theorem State.advance_mem (s : State) (len : Nat) : (s.advance len).mem = s.mem := by unfold State.advance; split <;> rfl
@[simp] theorem State.advance_freeCtr (s : State) (len : Nat) : (s.advance len).freeCtr = s.freeCtr := by unfold State.advance; split <;> rfl
@[simp] theorem State.advance_inputs (s : State) (len : Nat) : (s.advance len).inputs = s.inputs := by unfold State.advance; split <;> rfl

@[simp] theorem State.flushFetch_cfg (s : State) : (s.flushFetch).cfg = s.cfg := by rfl
@[simp] theorem State.flushFetch_regs (s : State) : (s.flushFetch).regs = s.regs := by rfl
@[simp] theorem State.flushFetch_pc (s : State) : (s.flushFetch).pc = s.pc := by rfl
@[simp] theorem State.flushFetch_seqWrap (s : State) : (s.flushFetch).seqWrap = s.seqWrap := by rfl
@[simp] theorem State.flushFetch_sleeping (s : State) : (s.flushFetch).sleeping = s.sleeping := by rfl
@[simp] theorem State.flushFetch_debugMode (s : State) : (s.flushFetch).debugMode = s.debugMode := by rfl
@[simp] theorem State.flushFetch_waiting (s : State) : (s.flushFetch).waiting = s.waiting := by rfl
@[simp] theorem State.flushFetch_csr (s : State) : (s.flushFetch).csr = s.csr := by rfl
@[simp] theorem State.flushFetch_timer (s : State) : (s.flushFetch).timer = s.timer := by rfl
@[simp] theorem State.flushFetch_ipic (s : State) : (s.flushFetch).ipic = s.ipic := by rfl
@[simp] theorem State.flushFetch_pins (s : State) : (s.flushFetch).pins = s.pins := by rfl
@[simp] theorem State.flushFetch_dcsr (s : State) : (s.flushFetch).dcsr = s.dcsr := by rfl
@[simp] theorem State.flushFetch_dpc (s : State) : (s.flushFetch).dpc = s.dpc := by rfl
@[simp] theorem State.flushFetch_pb (s : State) : (s.flushFetch).pb = s.pb := by rfl
@[simp] theorem State.flushFetch_tselect (s : State) : (s.flushFetch).tselect = s.tselect := by rfl
@[simp] theorem State.flushFetch_triggers (s : State) : (s.flushFetch).triggers = s.triggers := by rfl
@[simp] theorem State.flushFetch_dm (s : State) : (s.flushFetch).dm = s.dm := by rfl
@[simp] theorem State.flushFetch_scu (s : State) : (s.flushFetch).scu = s.scu := by rfl
@[simp] theorem State.flushFetch_tap (s : State) : (s.flushFetch).tap = s.tap := by rfl
@[simp] theorem State.flushFetch_mem (s : State) : (s.flushFetch).mem = s.mem := by rfl
@[simp] theorem State.flushFetch_freeCtr (s : State) : (s.flushFetch).freeCtr = s.freeCtr := by rfl
@[simp] theorem State.flushFetch_inputs (s : State) : (s.flushFetch).inputs = s.inputs := by rfl

@[simp] theorem State.takeTrap_cfg (s : State) (i : Bool) (c : BitVec 4) (v p : Word) : (s.takeTrap i c v p).cfg = s.cfg := by rfl
@[simp] theorem State.takeTrap_regs (s : State) (i : Bool) (c : BitVec 4) (v p : Word) : (s.takeTrap i c v p).regs = s.regs := by rfl
@[simp] theorem State.takeTrap_debugMode (s : State) (i : Bool) (c : BitVec 4) (v p : Word) : (s.takeTrap i c v p).debugMode = s.debugMode := by rfl
@[simp] theorem State.takeTrap_waiting (s : State) (i : Bool) (c : BitVec 4) (v p : Word) : (s.takeTrap i c v p).waiting = s.waiting := by rfl
@[simp] theorem State.takeTrap_stale (s : State) (i : Bool) (c : BitVec 4) (v p : Word) : (s.takeTrap i c v p).stale = s.stale := by rfl
@[simp] theorem State.takeTrap_timer (s : State) (i : Bool) (c : BitVec 4) (v p : Word) : (s.takeTrap i c v p).timer = s.timer := by rfl
@[simp] theorem State.takeTrap_ipic (s : State) (i : Bool) (c : BitVec 4) (v p : Word) : (s.takeTrap i c v p).ipic = s.ipic := by rfl
@[simp] theorem State.takeTrap_pins (s : State) (i : Bool) (c : BitVec 4) (v p : Word) : (s.takeTrap i c v p).pins = s.pins := by rfl
@[simp] theorem State.takeTrap_dcsr (s : State) (i : Bool) (c : BitVec 4) (v p : Word) : (s.takeTrap i c v p).dcsr = s.dcsr := by rfl
@[simp] theorem State.takeTrap_dpc (s : State) (i : Bool) (c : BitVec 4) (v p : Word) : (s.takeTrap i c v p).dpc = s.dpc := by rfl
@[simp] theorem State.takeTrap_pb (s : State) (i : Bool) (c : BitVec 4) (v p : Word) : (s.takeTrap i c v p).pb = s.pb := by rfl
@[simp] theorem State.takeTrap_tselect (s : State) (i : Bool) (c : BitVec 4) (v p : Word) : (s.takeTrap i c v p).tselect = s.tselect := by rfl
@[simp] theorem State.takeTrap_triggers (s : State) (i : Bool) (c : BitVec 4) (v p : Word) : (s.takeTrap i c v p).triggers = s.triggers := by rfl
@[simp] theorem State.takeTrap_dm (s : State) (i : Bool) (c : BitVec 4) (v p : Word) : (s.takeTrap i c v p).dm = s.dm := by rfl
@[simp] theorem State.takeTrap_scu (s : State) (i : Bool) (c : BitVec 4) (v p : Word) : (s.takeTrap i c v p).scu = s.scu := by rfl
@[simp] theorem State.takeTrap_tap (s : State) (i : Bool) (c : BitVec 4) (v p : Word) : (s.takeTrap i c v p).tap = s.tap := by rfl
@[simp] theorem State.takeTrap_mem (s : State) (i : Bool) (c : BitVec 4) (v p : Word) : (s.takeTrap i c v p).mem = s.mem := by rfl
@[simp] theorem State.takeTrap_freeCtr (s : State) (i : Bool) (c : BitVec 4) (v p : Word) : (s.takeTrap i c v p).freeCtr = s.freeCtr := by rfl
@[simp] theorem State.takeTrap_inputs (s : State) (i : Bool) (c : BitVec 4) (v p : Word) : (s.takeTrap i c v p).inputs = s.inputs := by rfl

@[simp] theorem State.enterDebug_cfg (s : State) (c : BitVec 3) (p : Word) : (s.enterDebug c p).cfg = s.cfg := by rfl
@[simp] theorem State.enterDebug_regs (s : State) (c : BitVec 3) (p : Word) : (s.enterDebug c p).regs = s.regs := by rfl
@[simp] theorem State.enterDebug_pc (s : State) (c : BitVec 3) (p : Word) : (s.enterDebug c p).pc = s.pc := by rfl
@[simp] theorem State.enterDebug_waiting (s : State) (c : BitVec 3) (p : Word) : (s.enterDebug c p).waiting = s.waiting := by rfl
@[simp] theorem State.enterDebug_stale (s : State) (c : BitVec 3) (p : Word) : (s.enterDebug c p).stale = s.stale := by rfl
@[simp] theorem State.enterDebug_csr (s : State) (c : BitVec 3) (p : Word) : (s.enterDebug c p).csr = s.csr := by rfl
@[simp] theorem State.enterDebug_timer (s : State) (c : BitVec 3) (p : Word) : (s.enterDebug c p).timer = s.timer := by rfl
@[simp] theorem State.enterDebug_ipic (s : State) (c : BitVec 3) (p : Word) : (s.enterDebug c p).ipic = s.ipic := by rfl
@[simp] theorem State.enterDebug_pins (s : State) (c : BitVec 3) (p : Word) : (s.enterDebug c p).pins = s.pins := by rfl
@[simp] theorem State.enterDebug_tselect (s : State) (c : BitVec 3) (p : Word) : (s.enterDebug c p).tselect = s.tselect := by rfl
@[simp] theorem State.enterDebug_triggers (s : State) (c : BitVec 3) (p : Word) : (s.enterDebug c p).triggers = s.triggers := by rfl
@[simp] theorem State.enterDebug_dm (s : State) (c : BitVec 3) (p : Word) : (s.enterDebug c p).dm = s.dm := by rfl
@[simp] theorem State.enterDebug_scu (s : State) (c : BitVec 3) (p : Word) : (s.enterDebug c p).scu = s.scu := by rfl
@[simp] theorem State.enterDebug_tap (s : State) (c : BitVec 3) (p : Word) : (s.enterDebug c p).tap = s.tap := by rfl
@[simp] theorem State.enterDebug_mem (s : State) (c : BitVec 3) (p : Word) : (s.enterDebug c p).mem = s.mem := by rfl
@[simp] theorem State.enterDebug_freeCtr (s : State) (c : BitVec 3) (p : Word) : (s.enterDebug c p).freeCtr = s.freeCtr := by rfl
@[simp] theorem State.enterDebug_inputs (s : State) (c : BitVec 3) (p : Word) : (s.enterDebug c p).inputs = s.inputs := by rfl

@[simp] theorem State.setCmderr_cfg (s : State) (e : BitVec 3) : (s.setCmderr e).cfg = s.cfg := by rfl
@[simp] theorem State.setCmderr_regs (s : State) (e : BitVec 3) : (s.setCmderr e).regs = s.regs := by rfl
@[simp] theorem State.setCmderr_pc (s : State) (e : BitVec 3) : (s.setCmderr e).pc = s.pc := by rfl
@[simp] theorem State.setCmderr_seqWrap (s : State) (e : BitVec 3) : (s.setCmderr e).seqWrap = s.seqWrap := by rfl
@[simp] theorem State.setCmderr_sleeping (s : State) (e : BitVec 3) : (s.setCmderr e).sleeping = s.sleeping := by rfl
@[simp] theorem State.setCmderr_debugMode (s : State) (e : BitVec 3) : (s.setCmderr e).debugMode = s.debugMode := by rfl
@[simp] theorem State.setCmderr_waiting (s : State) (e : BitVec 3) : (s.setCmderr e).waiting = s.waiting := by rfl
@[simp] theorem State.setCmderr_stale (s : State) (e : BitVec 3) : (s.setCmderr e).stale = s.stale := by rfl
@[simp] theorem State.setCmderr_csr (s : State) (e : BitVec 3) : (s.setCmderr e).csr = s.csr := by rfl
@[simp] theorem State.setCmderr_timer (s : State) (e : BitVec 3) : (s.setCmderr e).timer = s.timer := by rfl
@[simp] theorem State.setCmderr_ipic (s : State) (e : BitVec 3) : (s.setCmderr e).ipic = s.ipic := by rfl
@[simp] theorem State.setCmderr_pins (s : State) (e : BitVec 3) : (s.setCmderr e).pins = s.pins := by rfl
@[simp] theorem State.setCmderr_dcsr (s : State) (e : BitVec 3) : (s.setCmderr e).dcsr = s.dcsr := by rfl
@[simp] theorem State.setCmderr_dpc (s : State) (e : BitVec 3) : (s.setCmderr e).dpc = s.dpc := by rfl
@[simp] theorem State.setCmderr_pb (s : State) (e : BitVec 3) : (s.setCmderr e).pb = s.pb := by rfl
@[simp] theorem State.setCmderr_tselect (s : State) (e : BitVec 3) : (s.setCmderr e).tselect = s.tselect := by rfl
@[simp] theorem State.setCmderr_triggers (s : State) (e : BitVec 3) : (s.setCmderr e).triggers = s.triggers := by rfl
@[simp] theorem State.setCmderr_scu (s : State) (e : BitVec 3) : (s.setCmderr e).scu = s.scu := by rfl
@[simp] theorem State.setCmderr_tap (s : State) (e : BitVec 3) : (s.setCmderr e).tap = s.tap := by rfl
@[simp] theorem State.setCmderr_mem (s : State) (e : BitVec 3) : (s.setCmderr e).mem = s.mem := by rfl
@[simp] theorem State.setCmderr_freeCtr (s : State) (e : BitVec 3) : (s.setCmderr e).freeCtr = s.freeCtr := by rfl
@[simp] theorem State.setCmderr_inputs (s : State) (e : BitVec 3) : (s.setCmderr e).inputs = s.inputs := by rfl

@[simp] theorem State.failCommand_cfg (s : State) (e : BitVec 3) : (s.failCommand e).cfg = s.cfg := by rfl
@[simp] theorem State.failCommand_regs (s : State) (e : BitVec 3) : (s.failCommand e).regs = s.regs := by rfl
@[simp] theorem State.failCommand_pc (s : State) (e : BitVec 3) : (s.failCommand e).pc = s.pc := by rfl
@[simp] theorem State.failCommand_seqWrap (s : State) (e : BitVec 3) : (s.failCommand e).seqWrap = s.seqWrap := by rfl
@[simp] theorem State.failCommand_sleeping (s : State) (e : BitVec 3) : (s.failCommand e).sleeping = s.sleeping := by rfl
@[simp] theorem State.failCommand_debugMode (s : State) (e : BitVec 3) : (s.failCommand e).debugMode = s.debugMode := by rfl
@[simp] theorem State.failCommand_waiting (s : State) (e : BitVec 3) : (s.failCommand e).waiting = s.waiting := by rfl
@[simp] theorem State.failCommand_stale (s : State) (e : BitVec 3) : (s.failCommand e).stale = s.stale := by rfl
@[simp] theorem State.failCommand_csr (s : State) (e : BitVec 3) : (s.failCommand e).csr = s.csr := by rfl
@[simp] theorem State.failCommand_timer (s : State) (e : BitVec 3) : (s.failCommand e).timer = s.timer := by rfl
@[simp] theorem State.failCommand_ipic (s : State) (e : BitVec 3) : (s.failCommand e).ipic = s.ipic := by rfl
@[simp] theorem State.failCommand_pins (s : State) (e : BitVec 3) : (s.failCommand e).pins = s.pins := by rfl
@[simp] theorem State.failCommand_dcsr (s : State) (e : BitVec 3) : (s.failCommand e).dcsr = s.dcsr := by rfl
@[simp] theorem State.failCommand_dpc (s : State) (e : BitVec 3) : (s.failCommand e).dpc = s.dpc := by rfl
@[simp] theorem State.failCommand_pb (s : State) (e : BitVec 3) : (s.failCommand e).pb = s.pb := by rfl
@[simp] theorem State.failCommand_tselect (s : State) (e : BitVec 3) : (s.failCommand e).tselect = s.tselect := by rfl
@[simp] theorem State.failCommand_triggers (s : State) (e : BitVec 3) : (s.failCommand e).triggers = s.triggers := by rfl
@[simp] theorem State.failCommand_scu (s : State) (e : BitVec 3) : (s.failCommand e).scu = s.scu := by rfl
@[simp] theorem State.failCommand_tap (s : State) (e : BitVec 3) : (s.failCommand e).tap = s.tap := by rfl
@[simp] theorem State.failCommand_mem (s : State) (e : BitVec 3) : (s.failCommand e).mem = s.mem := by rfl
@[simp] theorem State.failCommand_freeCtr (s : State) (e : BitVec 3) : (s.failCommand e).freeCtr = s.freeCtr := by rfl
@[simp] theorem State.failCommand_inputs (s : State) (e : BitVec 3) : (s.failCommand e).inputs = s.inputs := by rfl

@[simp] theorem State.hangCommand_cfg (s : State) : (s.hangCommand).cfg = s.cfg := by rfl
@[simp] theorem State.hangCommand_regs (s : State) : (s.hangCommand).regs = s.regs := by rfl
@[simp] theorem State.hangCommand_pc (s : State) : (s.hangCommand).pc = s.pc := by rfl
@[simp] theorem State.hangCommand_seqWrap (s : State) : (s.hangCommand).seqWrap = s.seqWrap := by rfl
@[simp] theorem State.hangCommand_sleeping (s : State) : (s.hangCommand).sleeping = s.sleeping := by rfl
@[simp] theorem State.hangCommand_debugMode (s : State) : (s.hangCommand).debugMode = s.debugMode := by rfl
@[simp] theorem State.hangCommand_stale (s : State) : (s.hangCommand).stale = s.stale := by rfl
@[simp] theorem State.hangCommand_csr (s : State) : (s.hangCommand).csr = s.csr := by rfl
@[simp] theorem State.hangCommand_timer (s : State) : (s.hangCommand).timer = s.timer := by rfl
@[simp] theorem State.hangCommand_ipic (s : State) : (s.hangCommand).ipic = s.ipic := by rfl
@[simp] theorem State.hangCommand_pins (s : State) : (s.hangCommand).pins = s.pins := by rfl
@[simp] theorem State.hangCommand_dcsr (s : State) : (s.hangCommand).dcsr = s.dcsr := by rfl
@[simp] theorem State.hangCommand_dpc (s : State) : (s.hangCommand).dpc = s.dpc := by rfl
@[simp] theorem State.hangCommand_pb (s : State) : (s.hangCommand).pb = s.pb := by rfl
@[simp] theorem State.hangCommand_tselect (s : State) : (s.hangCommand).tselect = s.tselect := by rfl
@[simp] theorem State.hangCommand_triggers (s : State) : (s.hangCommand).triggers = s.triggers := by rfl
@[simp] theorem State.hangCommand_scu (s : State) : (s.hangCommand).scu = s.scu := by rfl
@[simp] theorem State.hangCommand_tap (s : State) : (s.hangCommand).tap = s.tap := by rfl
@[simp] theorem State.hangCommand_mem (s : State) : (s.hangCommand).mem = s.mem := by rfl
@[simp] theorem State.hangCommand_freeCtr (s : State) : (s.hangCommand).freeCtr = s.freeCtr := by rfl
@[simp] theorem State.hangCommand_inputs (s : State) : (s.hangCommand).inputs = s.inputs := by rfl

@[simp] theorem State.spendData1_cfg (s : State) : (s.spendData1).cfg = s.cfg := by rfl
@[simp] theorem State.spendData1_regs (s : State) : (s.spendData1).regs = s.regs := by rfl
@[simp] theorem State.spendData1_pc (s : State) : (s.spendData1).pc = s.pc := by rfl
@[simp] theorem State.spendData1_seqWrap (s : State) : (s.spendData1).seqWrap = s.seqWrap := by rfl
@[simp] theorem State.spendData1_sleeping (s : State) : (s.spendData1).sleeping = s.sleeping := by rfl
@[simp] theorem State.spendData1_debugMode (s : State) : (s.spendData1).debugMode = s.debugMode := by rfl
@[simp] theorem State.spendData1_waiting (s : State) : (s.spendData1).waiting = s.waiting := by rfl
@[simp] theorem State.spendData1_stale (s : State) : (s.spendData1).stale = s.stale := by rfl
@[simp] theorem State.spendData1_csr (s : State) : (s.spendData1).csr = s.csr := by rfl
@[simp] theorem State.spendData1_timer (s : State) : (s.spendData1).timer = s.timer := by rfl
@[simp] theorem State.spendData1_ipic (s : State) : (s.spendData1).ipic = s.ipic := by rfl
@[simp] theorem State.spendData1_pins (s : State) : (s.spendData1).pins = s.pins := by rfl
@[simp] theorem State.spendData1_dcsr (s : State) : (s.spendData1).dcsr = s.dcsr := by rfl
@[simp] theorem State.spendData1_dpc (s : State) : (s.spendData1).dpc = s.dpc := by rfl
@[simp] theorem State.spendData1_pb (s : State) : (s.spendData1).pb = s.pb := by rfl
@[simp] theorem State.spendData1_tselect (s : State) : (s.spendData1).tselect = s.tselect := by rfl
@[simp] theorem State.spendData1_triggers (s : State) : (s.spendData1).triggers = s.triggers := by rfl
@[simp] theorem State.spendData1_scu (s : State) : (s.spendData1).scu = s.scu := by rfl
@[simp] theorem State.spendData1_tap (s : State) : (s.spendData1).tap = s.tap := by rfl
@[simp] theorem State.spendData1_mem (s : State) : (s.spendData1).mem = s.mem := by rfl
@[simp] theorem State.spendData1_freeCtr (s : State) : (s.spendData1).freeCtr = s.freeCtr := by rfl
@[simp] theorem State.spendData1_inputs (s : State) : (s.spendData1).inputs = s.inputs := by rfl

@[simp] theorem State.busyError_cfg (s : State) : (s.busyError).cfg = s.cfg := by unfold State.busyError; split <;> rfl
@[simp] theorem State.busyError_regs (s : State) : (s.busyError).regs = s.regs := by unfold State.busyError; split <;> rfl
@[simp] theorem State.busyError_pc (s : State) : (s.busyError).pc = s.pc := by unfold State.busyError; split <;> rfl
@[simp] theorem State.busyError_seqWrap (s : State) : (s.busyError).seqWrap = s.seqWrap := by unfold State.busyError; split <;> rfl
@[simp] theorem State.busyError_sleeping (s : State) : (s.busyError).sleeping = s.sleeping := by unfold State.busyError; split <;> rfl
@[simp] theorem State.busyError_debugMode (s : State) : (s.busyError).debugMode = s.debugMode := by unfold State.busyError; split <;> rfl
@[simp] theorem State.busyError_waiting (s : State) : (s.busyError).waiting = s.waiting := by unfold State.busyError; split <;> rfl
@[simp] theorem State.busyError_stale (s : State) : (s.busyError).stale = s.stale := by unfold State.busyError; split <;> rfl
@[simp] theorem State.busyError_csr (s : State) : (s.busyError).csr = s.csr := by unfold State.busyError; split <;> rfl
@[simp] theorem State.busyError_timer (s : State) : (s.busyError).timer = s.timer := by unfold State.busyError; split <;> rfl
@[simp] theorem State.busyError_ipic (s : State) : (s.busyError).ipic = s.ipic := by unfold State.busyError; split <;> rfl
@[simp] theorem State.busyError_pins (s : State) : (s.busyError).pins = s.pins := by unfold State.busyError; split <;> rfl
@[simp] theorem State.busyError_dcsr (s : State) : (s.busyError).dcsr = s.dcsr := by unfold State.busyError; split <;> rfl
@[simp] theorem State.busyError_dpc (s : State) : (s.busyError).dpc = s.dpc := by unfold State.busyError; split <;> rfl
@[simp] theorem State.busyError_pb (s : State) : (s.busyError).pb = s.pb := by unfold State.busyError; split <;> rfl
@[simp] theorem State.busyError_tselect (s : State) : (s.busyError).tselect = s.tselect := by unfold State.busyError; split <;> rfl
@[simp] theorem State.busyError_triggers (s : State) : (s.busyError).triggers = s.triggers := by unfold State.busyError; split <;> rfl
@[simp] theorem State.busyError_scu (s : State) : (s.busyError).scu = s.scu := by unfold State.busyError; split <;> rfl
@[simp] theorem State.busyError_tap (s : State) : (s.busyError).tap = s.tap := by unfold State.busyError; split <;> rfl
@[simp] theorem State.busyError_mem (s : State) : (s.busyError).mem = s.mem := by unfold State.busyError; split <;> rfl
@[simp] theorem State.busyError_freeCtr (s : State) : (s.busyError).freeCtr = s.freeCtr := by unfold State.busyError; split <;> rfl
@[simp] theorem State.busyError_inputs (s : State) : (s.busyError).inputs = s.inputs := by unfold State.busyError; split <;> rfl

@[simp] theorem State.setData0_cfg (s : State) (v : Word) : (s.setData0 v).cfg = s.cfg := by rfl
@[simp] theorem State.setData0_regs (s : State) (v : Word) : (s.setData0 v).regs = s.regs := by rfl
@[simp] theorem State.setData0_pc (s : State) (v : Word) : (s.setData0 v).pc = s.pc := by rfl
@[simp] theorem State.setData0_seqWrap (s : State) (v : Word) : (s.setData0 v).seqWrap = s.seqWrap := by rfl
@[simp] theorem State.setData0_sleeping (s : State) (v : Word) : (s.setData0 v).sleeping = s.sleeping := by rfl
@[simp] theorem State.setData0_debugMode (s : State) (v : Word) : (s.setData0 v).debugMode = s.debugMode := by rfl
@[simp] theorem State.setData0_waiting (s : State) (v : Word) : (s.setData0 v).waiting = s.waiting := by rfl
@[simp] theorem State.setData0_stale (s : State) (v : Word) : (s.setData0 v).stale = s.stale := by rfl
@[simp] theorem State.setData0_csr (s : State) (v : Word) : (s.setData0 v).csr = s.csr := by rfl
@[simp] theorem State.setData0_timer (s : State) (v : Word) : (s.setData0 v).timer = s.timer := by rfl
@[simp] theorem State.setData0_ipic (s : State) (v : Word) : (s.setData0 v).ipic = s.ipic := by rfl
@[simp] theorem State.setData0_pins (s : State) (v : Word) : (s.setData0 v).pins = s.pins := by rfl
@[simp] theorem State.setData0_dcsr (s : State) (v : Word) : (s.setData0 v).dcsr = s.dcsr := by rfl
@[simp] theorem State.setData0_dpc (s : State) (v : Word) : (s.setData0 v).dpc = s.dpc := by rfl
@[simp] theorem State.setData0_pb (s : State) (v : Word) : (s.setData0 v).pb = s.pb := by rfl
@[simp] theorem State.setData0_tselect (s : State) (v : Word) : (s.setData0 v).tselect = s.tselect := by rfl
@[simp] theorem State.setData0_triggers (s : State) (v : Word) : (s.setData0 v).triggers = s.triggers := by rfl
@[simp] theorem State.setData0_scu (s : State) (v : Word) : (s.setData0 v).scu = s.scu := by rfl
@[simp] theorem State.setData0_tap (s : State) (v : Word) : (s.setData0 v).tap = s.tap := by rfl
@[simp] theorem State.setData0_mem (s : State) (v : Word) : (s.setData0 v).mem = s.mem := by rfl
@[simp] theorem State.setData0_freeCtr (s : State) (v : Word) : (s.setData0 v).freeCtr = s.freeCtr := by rfl
@[simp] theorem State.setData0_inputs (s : State) (v : Word) : (s.setData0 v).inputs = s.inputs := by rfl

@[simp] theorem State.setDmi_cfg (s : State) (a : BitVec 7) (v : Word) : (s.setDmi a v).cfg = s.cfg := by rfl
@[simp] theorem State.setDmi_regs (s : State) (a : BitVec 7) (v : Word) : (s.setDmi a v).regs = s.regs := by rfl
@[simp] theorem State.setDmi_pc (s : State) (a : BitVec 7) (v : Word) : (s.setDmi a v).pc = s.pc := by rfl
@[simp] theorem State.setDmi_seqWrap (s : State) (a : BitVec 7) (v : Word) : (s.setDmi a v).seqWrap = s.seqWrap := by rfl
@[simp] theorem State.setDmi_sleeping (s : State) (a : BitVec 7) (v : Word) : (s.setDmi a v).sleeping = s.sleeping := by rfl
@[simp] theorem State.setDmi_debugMode (s : State) (a : BitVec 7) (v : Word) : (s.setDmi a v).debugMode = s.debugMode := by rfl
@[simp] theorem State.setDmi_waiting (s : State) (a : BitVec 7) (v : Word) : (s.setDmi a v).waiting = s.waiting := by rfl
@[simp] theorem State.setDmi_stale (s : State) (a : BitVec 7) (v : Word) : (s.setDmi a v).stale = s.stale := by rfl
@[simp] theorem State.setDmi_csr (s : State) (a : BitVec 7) (v : Word) : (s.setDmi a v).csr = s.csr := by rfl
@[simp] theorem State.setDmi_timer (s : State) (a : BitVec 7) (v : Word) : (s.setDmi a v).timer = s.timer := by rfl
@[simp] theorem State.setDmi_ipic (s : State) (a : BitVec 7) (v : Word) : (s.setDmi a v).ipic = s.ipic := by rfl
@[simp] theorem State.setDmi_pins (s : State) (a : BitVec 7) (v : Word) : (s.setDmi a v).pins = s.pins := by rfl
@[simp] theorem State.setDmi_dcsr (s : State) (a : BitVec 7) (v : Word) : (s.setDmi a v).dcsr = s.dcsr := by rfl
@[simp] theorem State.setDmi_dpc (s : State) (a : BitVec 7) (v : Word) : (s.setDmi a v).dpc = s.dpc := by rfl
@[simp] theorem State.setDmi_pb (s : State) (a : BitVec 7) (v : Word) : (s.setDmi a v).pb = s.pb := by rfl
@[simp] theorem State.setDmi_tselect (s : State) (a : BitVec 7) (v : Word) : (s.setDmi a v).tselect = s.tselect := by rfl
@[simp] theorem State.setDmi_triggers (s : State) (a : BitVec 7) (v : Word) : (s.setDmi a v).triggers = s.triggers := by rfl
@[simp] theorem State.setDmi_dm (s : State) (a : BitVec 7) (v : Word) : (s.setDmi a v).dm = s.dm := by rfl
@[simp] theorem State.setDmi_scu (s : State) (a : BitVec 7) (v : Word) : (s.setDmi a v).scu = s.scu := by rfl
@[simp] theorem State.setDmi_mem (s : State) (a : BitVec 7) (v : Word) : (s.setDmi a v).mem = s.mem := by rfl
@[simp] theorem State.setDmi_freeCtr (s : State) (a : BitVec 7) (v : Word) : (s.setDmi a v).freeCtr = s.freeCtr := by rfl
@[simp] theorem State.setDmi_inputs (s : State) (a : BitVec 7) (v : Word) : (s.setDmi a v).inputs = s.inputs := by rfl

@[simp] theorem State.setTdo_cfg (s : State) (v : Nat) : (s.setTdo v).cfg = s.cfg := by rfl
@[simp] theorem State.setTdo_regs (s : State) (v : Nat) : (s.setTdo v).regs = s.regs := by rfl
@[simp] theorem State.setTdo_pc (s : State) (v : Nat) : (s.setTdo v).pc = s.pc := by rfl
@[simp] theorem State.setTdo_seqWrap (s : State) (v : Nat) : (s.setTdo v).seqWrap = s.seqWrap := by rfl
@[simp] theorem State.setTdo_sleeping (s : State) (v : Nat) : (s.setTdo v).sleeping = s.sleeping := by rfl
@[simp] theorem State.setTdo_debugMode (s : State) (v : Nat) : (s.setTdo v).debugMode = s.debugMode := by rfl
@[simp] theorem State.setTdo_waiting (s : State) (v : Nat) : (s.setTdo v).waiting = s.waiting := by rfl
@[simp] theorem State.setTdo_stale (s : State) (v : Nat) : (s.setTdo v).stale = s.stale := by rfl
@[simp] theorem State.setTdo_csr (s : State) (v : Nat) : (s.setTdo v).csr = s.csr := by rfl
@[simp] theorem State.setTdo_timer (s : State) (v : Nat) : (s.setTdo v).timer = s.timer := by rfl
@[simp] theorem State.setTdo_ipic (s : State) (v : Nat) : (s.setTdo v).ipic = s.ipic := by rfl
@[simp] theorem State.setTdo_pins (s : State) (v : Nat) : (s.setTdo v).pins = s.pins := by rfl
@[simp] theorem State.setTdo_dcsr (s : State) (v : Nat) : (s.setTdo v).dcsr = s.dcsr := by rfl
@[simp] theorem State.setTdo_dpc (s : State) (v : Nat) : (s.setTdo v).dpc = s.dpc := by rfl
@[simp] theorem State.setTdo_pb (s : State) (v : Nat) : (s.setTdo v).pb = s.pb := by rfl
@[simp] theorem State.setTdo_tselect (s : State) (v : Nat) : (s.setTdo v).tselect = s.tselect := by rfl
@[simp] theorem State.setTdo_triggers (s : State) (v : Nat) : (s.setTdo v).triggers = s.triggers := by rfl
@[simp] theorem State.setTdo_dm (s : State) (v : Nat) : (s.setTdo v).dm = s.dm := by rfl
@[simp] theorem State.setTdo_scu (s : State) (v : Nat) : (s.setTdo v).scu = s.scu := by rfl
@[simp] theorem State.setTdo_mem (s : State) (v : Nat) : (s.setTdo v).mem = s.mem := by rfl
@[simp] theorem State.setTdo_freeCtr (s : State) (v : Nat) : (s.setTdo v).freeCtr = s.freeCtr := by rfl
@[simp] theorem State.setTdo_inputs (s : State) (v : Nat) : (s.setTdo v).inputs = s.inputs := by rfl

@[simp] theorem State.setPins_cfg (s : State) (p : Pins) : (s.setPins p).cfg = s.cfg := by rfl
@[simp] theorem State.setPins_regs (s : State) (p : Pins) : (s.setPins p).regs = s.regs := by rfl
@[simp] theorem State.setPins_pc (s : State) (p : Pins) : (s.setPins p).pc = s.pc := by rfl
@[simp] theorem State.setPins_seqWrap (s : State) (p : Pins) : (s.setPins p).seqWrap = s.seqWrap := by rfl
@[simp] theorem State.setPins_sleeping (s : State) (p : Pins) : (s.setPins p).sleeping = s.sleeping := by rfl
@[simp] theorem State.setPins_debugMode (s : State) (p : Pins) : (s.setPins p).debugMode = s.debugMode := by rfl
@[simp] theorem State.setPins_waiting (s : State) (p : Pins) : (s.setPins p).waiting = s.waiting := by rfl
@[simp] theorem State.setPins_stale (s : State) (p : Pins) : (s.setPins p).stale = s.stale := by rfl
@[simp] theorem State.setPins_csr (s : State) (p : Pins) : (s.setPins p).csr = s.csr := by rfl
@[simp] theorem State.setPins_timer (s : State) (p : Pins) : (s.setPins p).timer = s.timer := by rfl
@[simp] theorem State.setPins_ipic (s : State) (p : Pins) : (s.setPins p).ipic = s.ipic := by rfl
@[simp] theorem State.setPins_dcsr (s : State) (p : Pins) : (s.setPins p).dcsr = s.dcsr := by rfl
@[simp] theorem State.setPins_dpc (s : State) (p : Pins) : (s.setPins p).dpc = s.dpc := by rfl
@[simp] theorem State.setPins_pb (s : State) (p : Pins) : (s.setPins p).pb = s.pb := by rfl
@[simp] theorem State.setPins_tselect (s : State) (p : Pins) : (s.setPins p).tselect = s.tselect := by rfl
@[simp] theorem State.setPins_triggers (s : State) (p : Pins) : (s.setPins p).triggers = s.triggers := by rfl
@[simp] theorem State.setPins_dm (s : State) (p : Pins) : (s.setPins p).dm = s.dm := by rfl
@[simp] theorem State.setPins_scu (s : State) (p : Pins) : (s.setPins p).scu = s.scu := by rfl
@[simp] theorem State.setPins_tap (s : State) (p : Pins) : (s.setPins p).tap = s.tap := by rfl
@[simp] theorem State.setPins_mem (s : State) (p : Pins) : (s.setPins p).mem = s.mem := by rfl
@[simp] theorem State.setPins_freeCtr (s : State) (p : Pins) : (s.setPins p).freeCtr = s.freeCtr := by rfl
@[simp] theorem State.setPins_inputs (s : State) (p : Pins) : (s.setPins p).inputs = s.inputs := by rfl

@[simp] theorem State.resetHart_cfg (s : State) : (s.resetHart).cfg = s.cfg := by rfl
@[simp] theorem State.resetHart_pins (s : State) : (s.resetHart).pins = s.pins := by rfl
@[simp] theorem State.resetHart_dcsr (s : State) : (s.resetHart).dcsr = s.dcsr := by rfl
@[simp] theorem State.resetHart_dpc (s : State) : (s.resetHart).dpc = s.dpc := by rfl
@[simp] theorem State.resetHart_tselect (s : State) : (s.resetHart).tselect = s.tselect := by rfl
@[simp] theorem State.resetHart_triggers (s : State) : (s.resetHart).triggers = s.triggers := by rfl
@[simp] theorem State.resetHart_scu (s : State) : (s.resetHart).scu = s.scu := by rfl
@[simp] theorem State.resetHart_tap (s : State) : (s.resetHart).tap = s.tap := by rfl
@[simp] theorem State.resetHart_mem (s : State) : (s.resetHart).mem = s.mem := by rfl
@[simp] theorem State.resetHart_freeCtr (s : State) : (s.resetHart).freeCtr = s.freeCtr := by rfl
@[simp] theorem State.resetHart_inputs (s : State) : (s.resetHart).inputs = s.inputs := by rfl

@[simp] theorem State.clearHavereset_cfg (s : State) : (s.clearHavereset).cfg = s.cfg := by rfl
@[simp] theorem State.clearHavereset_regs (s : State) : (s.clearHavereset).regs = s.regs := by rfl
@[simp] theorem State.clearHavereset_pc (s : State) : (s.clearHavereset).pc = s.pc := by rfl
@[simp] theorem State.clearHavereset_seqWrap (s : State) : (s.clearHavereset).seqWrap = s.seqWrap := by rfl
@[simp] theorem State.clearHavereset_sleeping (s : State) : (s.clearHavereset).sleeping = s.sleeping := by rfl
@[simp] theorem State.clearHavereset_debugMode (s : State) : (s.clearHavereset).debugMode = s.debugMode := by rfl
@[simp] theorem State.clearHavereset_waiting (s : State) : (s.clearHavereset).waiting = s.waiting := by rfl
@[simp] theorem State.clearHavereset_stale (s : State) : (s.clearHavereset).stale = s.stale := by rfl
@[simp] theorem State.clearHavereset_csr (s : State) : (s.clearHavereset).csr = s.csr := by rfl
@[simp] theorem State.clearHavereset_timer (s : State) : (s.clearHavereset).timer = s.timer := by rfl
@[simp] theorem State.clearHavereset_ipic (s : State) : (s.clearHavereset).ipic = s.ipic := by rfl
@[simp] theorem State.clearHavereset_pins (s : State) : (s.clearHavereset).pins = s.pins := by rfl
@[simp] theorem State.clearHavereset_dcsr (s : State) : (s.clearHavereset).dcsr = s.dcsr := by rfl
@[simp] theorem State.clearHavereset_dpc (s : State) : (s.clearHavereset).dpc = s.dpc := by rfl
@[simp] theorem State.clearHavereset_pb (s : State) : (s.clearHavereset).pb = s.pb := by rfl
@[simp] theorem State.clearHavereset_tselect (s : State) : (s.clearHavereset).tselect = s.tselect := by rfl
@[simp] theorem State.clearHavereset_triggers (s : State) : (s.clearHavereset).triggers = s.triggers := by rfl
@[simp] theorem State.clearHavereset_scu (s : State) : (s.clearHavereset).scu = s.scu := by rfl
@[simp] theorem State.clearHavereset_tap (s : State) : (s.clearHavereset).tap = s.tap := by rfl
@[simp] theorem State.clearHavereset_mem (s : State) : (s.clearHavereset).mem = s.mem := by rfl
@[simp] theorem State.clearHavereset_freeCtr (s : State) : (s.clearHavereset).freeCtr = s.freeCtr := by rfl
@[simp] theorem State.clearHavereset_inputs (s : State) : (s.clearHavereset).inputs = s.inputs := by rfl

@[simp] theorem State.resetHdu_cfg (s : State) : (s.resetHdu).cfg = s.cfg := by rfl
@[simp] theorem State.resetHdu_regs (s : State) : (s.resetHdu).regs = s.regs := by rfl
@[simp] theorem State.resetHdu_pc (s : State) : (s.resetHdu).pc = s.pc := by rfl
@[simp] theorem State.resetHdu_seqWrap (s : State) : (s.resetHdu).seqWrap = s.seqWrap := by rfl
@[simp] theorem State.resetHdu_sleeping (s : State) : (s.resetHdu).sleeping = s.sleeping := by rfl
@[simp] theorem State.resetHdu_debugMode (s : State) : (s.resetHdu).debugMode = s.debugMode := by rfl
@[simp] theorem State.resetHdu_waiting (s : State) : (s.resetHdu).waiting = s.waiting := by rfl
@[simp] theorem State.resetHdu_stale (s : State) : (s.resetHdu).stale = s.stale := by rfl
@[simp] theorem State.resetHdu_csr (s : State) : (s.resetHdu).csr = s.csr := by rfl
@[simp] theorem State.resetHdu_timer (s : State) : (s.resetHdu).timer = s.timer := by rfl
@[simp] theorem State.resetHdu_ipic (s : State) : (s.resetHdu).ipic = s.ipic := by rfl
@[simp] theorem State.resetHdu_pins (s : State) : (s.resetHdu).pins = s.pins := by rfl
@[simp] theorem State.resetHdu_pb (s : State) : (s.resetHdu).pb = s.pb := by rfl
@[simp] theorem State.resetHdu_scu (s : State) : (s.resetHdu).scu = s.scu := by rfl
@[simp] theorem State.resetHdu_tap (s : State) : (s.resetHdu).tap = s.tap := by rfl
@[simp] theorem State.resetHdu_mem (s : State) : (s.resetHdu).mem = s.mem := by rfl
@[simp] theorem State.resetHdu_freeCtr (s : State) : (s.resetHdu).freeCtr = s.freeCtr := by rfl
@[simp] theorem State.resetHdu_inputs (s : State) : (s.resetHdu).inputs = s.inputs := by rfl

@[simp] theorem State.settleScu_cfg (s : State) : (s.settleScu).cfg = s.cfg := by unfold State.settleScu; split <;> rfl
@[simp] theorem State.settleScu_regs (s : State) : (s.settleScu).regs = s.regs := by unfold State.settleScu; split <;> rfl
@[simp] theorem State.settleScu_pc (s : State) : (s.settleScu).pc = s.pc := by unfold State.settleScu; split <;> rfl
@[simp] theorem State.settleScu_seqWrap (s : State) : (s.settleScu).seqWrap = s.seqWrap := by unfold State.settleScu; split <;> rfl
@[simp] theorem State.settleScu_sleeping (s : State) : (s.settleScu).sleeping = s.sleeping := by unfold State.settleScu; split <;> rfl
@[simp] theorem State.settleScu_debugMode (s : State) : (s.settleScu).debugMode = s.debugMode := by unfold State.settleScu; split <;> rfl
@[simp] theorem State.settleScu_waiting (s : State) : (s.settleScu).waiting = s.waiting := by unfold State.settleScu; split <;> rfl
@[simp] theorem State.settleScu_stale (s : State) : (s.settleScu).stale = s.stale := by unfold State.settleScu; split <;> rfl
@[simp] theorem State.settleScu_csr (s : State) : (s.settleScu).csr = s.csr := by unfold State.settleScu; split <;> rfl
@[simp] theorem State.settleScu_timer (s : State) : (s.settleScu).timer = s.timer := by unfold State.settleScu; split <;> rfl
@[simp] theorem State.settleScu_ipic (s : State) : (s.settleScu).ipic = s.ipic := by unfold State.settleScu; split <;> rfl
@[simp] theorem State.settleScu_pins (s : State) : (s.settleScu).pins = s.pins := by unfold State.settleScu; split <;> rfl
@[simp] theorem State.settleScu_dcsr (s : State) : (s.settleScu).dcsr = s.dcsr := by unfold State.settleScu; split <;> rfl
@[simp] theorem State.settleScu_dpc (s : State) : (s.settleScu).dpc = s.dpc := by unfold State.settleScu; split <;> rfl
@[simp] theorem State.settleScu_pb (s : State) : (s.settleScu).pb = s.pb := by unfold State.settleScu; split <;> rfl
@[simp] theorem State.settleScu_tselect (s : State) : (s.settleScu).tselect = s.tselect := by unfold State.settleScu; split <;> rfl
@[simp] theorem State.settleScu_triggers (s : State) : (s.settleScu).triggers = s.triggers := by unfold State.settleScu; split <;> rfl
@[simp] theorem State.settleScu_dm (s : State) : (s.settleScu).dm = s.dm := by unfold State.settleScu; split <;> rfl
@[simp] theorem State.settleScu_tap (s : State) : (s.settleScu).tap = s.tap := by unfold State.settleScu; split <;> rfl
@[simp] theorem State.settleScu_mem (s : State) : (s.settleScu).mem = s.mem := by unfold State.settleScu; split <;> rfl
@[simp] theorem State.settleScu_freeCtr (s : State) : (s.settleScu).freeCtr = s.freeCtr := by unfold State.settleScu; split <;> rfl
@[simp] theorem State.settleScu_inputs (s : State) : (s.settleScu).inputs = s.inputs := by unfold State.settleScu; split <;> rfl

@[simp] theorem State.wakeUp_cfg (s : State) : (s.wakeUp).cfg = s.cfg := by rfl
@[simp] theorem State.wakeUp_regs (s : State) : (s.wakeUp).regs = s.regs := by rfl
@[simp] theorem State.wakeUp_pc (s : State) : (s.wakeUp).pc = s.pc := by rfl
@[simp] theorem State.wakeUp_seqWrap (s : State) : (s.wakeUp).seqWrap = s.seqWrap := by rfl
@[simp] theorem State.wakeUp_debugMode (s : State) : (s.wakeUp).debugMode = s.debugMode := by rfl
@[simp] theorem State.wakeUp_waiting (s : State) : (s.wakeUp).waiting = s.waiting := by rfl
@[simp] theorem State.wakeUp_stale (s : State) : (s.wakeUp).stale = s.stale := by rfl
@[simp] theorem State.wakeUp_csr (s : State) : (s.wakeUp).csr = s.csr := by rfl
@[simp] theorem State.wakeUp_timer (s : State) : (s.wakeUp).timer = s.timer := by rfl
@[simp] theorem State.wakeUp_ipic (s : State) : (s.wakeUp).ipic = s.ipic := by rfl
@[simp] theorem State.wakeUp_pins (s : State) : (s.wakeUp).pins = s.pins := by rfl
@[simp] theorem State.wakeUp_dcsr (s : State) : (s.wakeUp).dcsr = s.dcsr := by rfl
@[simp] theorem State.wakeUp_dpc (s : State) : (s.wakeUp).dpc = s.dpc := by rfl
@[simp] theorem State.wakeUp_pb (s : State) : (s.wakeUp).pb = s.pb := by rfl
@[simp] theorem State.wakeUp_tselect (s : State) : (s.wakeUp).tselect = s.tselect := by rfl
@[simp] theorem State.wakeUp_triggers (s : State) : (s.wakeUp).triggers = s.triggers := by rfl
@[simp] theorem State.wakeUp_dm (s : State) : (s.wakeUp).dm = s.dm := by rfl
@[simp] theorem State.wakeUp_scu (s : State) : (s.wakeUp).scu = s.scu := by rfl
@[simp] theorem State.wakeUp_tap (s : State) : (s.wakeUp).tap = s.tap := by rfl
@[simp] theorem State.wakeUp_mem (s : State) : (s.wakeUp).mem = s.mem := by rfl
@[simp] theorem State.wakeUp_freeCtr (s : State) : (s.wakeUp).freeCtr = s.freeCtr := by rfl
@[simp] theorem State.wakeUp_inputs (s : State) : (s.wakeUp).inputs = s.inputs := by rfl

@[simp] theorem State.tick_cfg (s : State) : (s.tick).cfg = s.cfg := by unfold State.tick State.wakeUp; split <;> rfl
@[simp] theorem State.tick_regs (s : State) : (s.tick).regs = s.regs := by unfold State.tick State.wakeUp; split <;> rfl
@[simp] theorem State.tick_pc (s : State) : (s.tick).pc = s.pc := by unfold State.tick State.wakeUp; split <;> rfl
@[simp] theorem State.tick_seqWrap (s : State) : (s.tick).seqWrap = s.seqWrap := by unfold State.tick State.wakeUp; split <;> rfl
@[simp] theorem State.tick_debugMode (s : State) : (s.tick).debugMode = s.debugMode := by unfold State.tick State.wakeUp; split <;> rfl
@[simp] theorem State.tick_waiting (s : State) : (s.tick).waiting = s.waiting := by unfold State.tick State.wakeUp; split <;> rfl
@[simp] theorem State.tick_stale (s : State) : (s.tick).stale = s.stale := by unfold State.tick State.wakeUp; split <;> rfl
@[simp] theorem State.tick_pins (s : State) : (s.tick).pins = s.pins := by unfold State.tick State.wakeUp; split <;> rfl
@[simp] theorem State.tick_dcsr (s : State) : (s.tick).dcsr = s.dcsr := by unfold State.tick State.wakeUp; split <;> rfl
@[simp] theorem State.tick_dpc (s : State) : (s.tick).dpc = s.dpc := by unfold State.tick State.wakeUp; split <;> rfl
@[simp] theorem State.tick_pb (s : State) : (s.tick).pb = s.pb := by unfold State.tick State.wakeUp; split <;> rfl
@[simp] theorem State.tick_tselect (s : State) : (s.tick).tselect = s.tselect := by unfold State.tick State.wakeUp; split <;> rfl
@[simp] theorem State.tick_triggers (s : State) : (s.tick).triggers = s.triggers := by unfold State.tick State.wakeUp; split <;> rfl
@[simp] theorem State.tick_dm (s : State) : (s.tick).dm = s.dm := by unfold State.tick State.wakeUp; split <;> rfl
@[simp] theorem State.tick_scu (s : State) : (s.tick).scu = s.scu := by unfold State.tick State.wakeUp; split <;> rfl
@[simp] theorem State.tick_tap (s : State) : (s.tick).tap = s.tap := by unfold State.tick State.wakeUp; split <;> rfl
@[simp] theorem State.tick_mem (s : State) : (s.tick).mem = s.mem := by unfold State.tick State.wakeUp; split <;> rfl
@[simp] theorem State.tick_inputs (s : State) : (s.tick).inputs = s.inputs := by unfold State.tick State.wakeUp; split <;> rfl

@[simp] theorem State.countInstr_csr (s : State) (on : Bool) : (s.countInstr on).csr = s.csr.retired on := rfl
@[simp] theorem State.flushFetch_stale (s : State) : s.flushFetch.stale = [] := rfl
@[simp] theorem State.takeTrap_pc (s : State) (i : Bool) (c : BitVec 4) (v p : Word) :
    (s.takeTrap i c v p).pc = vector s.csr.mtvec i c := rfl
@[simp] theorem State.enterDebug_debugMode (s : State) (c : BitVec 3) (p : Word) : (s.enterDebug c p).debugMode = true := rfl
@[simp] theorem State.enterDebug_dpc (s : State) (c : BitVec 3) (p : Word) : (s.enterDebug c p).dpc = p := rfl
@[simp] theorem State.retire_cfg (s : State) (len : Nat) : (s.retire len).cfg = s.cfg := by simp [State.retire]
@[simp] theorem State.retire_regs (s : State) (len : Nat) : (s.retire len).regs = s.regs := by simp [State.retire]
@[simp] theorem State.retire_sleeping (s : State) (len : Nat) : (s.retire len).sleeping = s.sleeping := by simp [State.retire]
@[simp] theorem State.retire_debugMode (s : State) (len : Nat) : (s.retire len).debugMode = s.debugMode := by simp [State.retire]
@[simp] theorem State.retire_waiting (s : State) (len : Nat) : (s.retire len).waiting = s.waiting := by simp [State.retire]
@[simp] theorem State.retire_stale (s : State) (len : Nat) : (s.retire len).stale = s.stale := by simp [State.retire]
@[simp] theorem State.retire_timer (s : State) (len : Nat) : (s.retire len).timer = s.timer := by simp [State.retire]
@[simp] theorem State.retire_ipic (s : State) (len : Nat) : (s.retire len).ipic = s.ipic := by simp [State.retire]
@[simp] theorem State.retire_pins (s : State) (len : Nat) : (s.retire len).pins = s.pins := by simp [State.retire]
@[simp] theorem State.retire_dcsr (s : State) (len : Nat) : (s.retire len).dcsr = s.dcsr := by simp [State.retire]
@[simp] theorem State.retire_dpc (s : State) (len : Nat) : (s.retire len).dpc = s.dpc := by simp [State.retire]
@[simp] theorem State.retire_pb (s : State) (len : Nat) : (s.retire len).pb = s.pb := by simp [State.retire]
@[simp] theorem State.retire_tselect (s : State) (len : Nat) : (s.retire len).tselect = s.tselect := by simp [State.retire]
@[simp] theorem State.retire_triggers (s : State) (len : Nat) : (s.retire len).triggers = s.triggers := by simp [State.retire]
@[simp] theorem State.retire_dm (s : State) (len : Nat) : (s.retire len).dm = s.dm := by simp [State.retire]
@[simp] theorem State.retire_scu (s : State) (len : Nat) : (s.retire len).scu = s.scu := by simp [State.retire]
@[simp] theorem State.retire_tap (s : State) (len : Nat) : (s.retire len).tap = s.tap := by simp [State.retire]
@[simp] theorem State.retire_mem (s : State) (len : Nat) : (s.retire len).mem = s.mem := by simp [State.retire]
@[simp] theorem State.retire_freeCtr (s : State) (len : Nat) : (s.retire len).freeCtr = s.freeCtr := by simp [State.retire]
@[simp] theorem State.retire_inputs (s : State) (len : Nat) : (s.retire len).inputs = s.inputs := by simp [State.retire]
@[simp] theorem State.retire_csr (s : State) (len : Nat) : (s.retire len).csr = s.csr.retired s.countsInstret := by
  simp [State.retire]

end Sys2Proof.Machine
end

