-- ==== Sys2Proof/Laws/Memory.lean ====
section
/-! SUPPORT. Memory: reading after writing, and the canonical form that every memory operation keeps. -/
namespace Sys2Proof.Machine

theorem Memory.readByte_writeByte (m : Memory) (hm : m.Pairwise (fun c d => c.1 < d.1)) (a b : Nat) (v : Byte) :
    (m.writeByte a v).readByte b = if a = b then v else m.readByte b := by
  induction m with
  | nil =>
    by_cases hv : v = Memory.blank <;> by_cases hab : a = b <;> simp [Memory.writeByte, Memory.readByte, hv, hab]
  | cons c t ih =>
    obtain ⟨k, w⟩ := c
    have ht := (List.pairwise_cons.mp hm).2
    have hk := (List.pairwise_cons.mp hm).1
    have absent : ∀ x, x ≤ k → Memory.readByte t x = Memory.blank := by
      intro x hx
      clear ih hm ht
      induction t with
      | nil => rfl
      | cons d u ihu =>
        have h1 : k < d.1 := hk d (by simp)
        have h2 : d.1 ≠ x := by omega
        simp only [Memory.readByte, h2, if_false]
        exact ihu (fun e he => hk e (by simp [he]))
    by_cases h1 : a < k
    · by_cases hv : v = Memory.blank
      · simp only [Memory.writeByte, h1, hv, if_true]
        by_cases hab : a = b
        · subst hab
          have : k ≠ a := by omega
          simp [Memory.readByte, this, absent a (by omega)]
        · simp [hab]
      · simp [Memory.writeByte, h1, hv, Memory.readByte]
    · by_cases h2 : a = k
      · subst h2
        by_cases hv : v = Memory.blank
        · simp only [Memory.writeByte, h1, hv, if_true, if_false]
          by_cases hab : a = b
          · subst hab; simp [absent a (by omega)]
          · simp [Memory.readByte, hab]
        · simp only [Memory.writeByte, h1, hv, if_true, if_false]
          by_cases hab : a = b <;> simp [Memory.readByte, hab]
      · simp only [Memory.writeByte, h1, h2, if_false, Memory.readByte]
        by_cases hkb : k = b
        · have : a ≠ b := by omega
          simp [hkb, this]
        · simp [hkb, ih ht]

theorem Memory.mem_writeByte {m : Memory} {a : Nat} {v : Byte} {c : Host.Cell} (h : c ∈ m.writeByte a v) :
    c ∈ m ∨ (c = (a, v) ∧ v ≠ Memory.blank) := by
  induction m with
  | nil =>
    by_cases hv : v = Memory.blank
    · simp [Memory.writeByte, hv] at h
    · simp [Memory.writeByte, hv] at h; exact Or.inr ⟨h, hv⟩
  | cons d t ih =>
    obtain ⟨k, w⟩ := d
    unfold Memory.writeByte at h
    split at h
    · split at h
      · exact Or.inl h
      · rcases List.mem_cons.mp h with h | h
        · exact Or.inr ⟨h, by assumption⟩
        · exact Or.inl h
    · split at h
      · split at h
        · exact Or.inl (List.mem_cons_of_mem _ h)
        · rcases List.mem_cons.mp h with h | h
          · exact Or.inr ⟨h, by assumption⟩
          · exact Or.inl (List.mem_cons_of_mem _ h)
      · rcases List.mem_cons.mp h with h | h
        · exact Or.inl (by simp [h])
        · rcases ih h with h | h
          · exact Or.inl (List.mem_cons_of_mem _ h)
          · exact Or.inr h

theorem Memory.pairwise_writeByte {m : Memory} (hm : m.Pairwise (fun c d => c.1 < d.1)) (a : Nat) (v : Byte) :
    (m.writeByte a v).Pairwise (fun c d => c.1 < d.1) := by
  induction m with
  | nil => unfold Memory.writeByte; split <;> simp
  | cons d t ih =>
    obtain ⟨k, w⟩ := d
    have ht := (List.pairwise_cons.mp hm).2
    have hk := (List.pairwise_cons.mp hm).1
    unfold Memory.writeByte
    split
    · split
      · exact hm
      · refine List.pairwise_cons.mpr ⟨?_, hm⟩
        intro e he
        rcases List.mem_cons.mp he with rfl | he
        · assumption
        · have := hk e he; simp only at this ⊢; omega
    · split
      · next h2 =>
        subst h2
        split
        · exact ht
        · exact List.pairwise_cons.mpr ⟨hk, ht⟩
      · refine List.pairwise_cons.mpr ⟨?_, ih ht⟩
        intro e he
        rcases Memory.mem_writeByte he with he | ⟨rfl, _⟩
        · exact hk e he
        · simp only; omega

/-- A write keeps the canonical form. -/
theorem Memory.wf_writeByte {m : Memory} (hm : m.wf) {a : Nat} (ha : a < 2 ^ 32) (v : Byte) : (m.writeByte a v).wf := by
  refine ⟨Memory.pairwise_writeByte hm.1 a v, ?_⟩
  intro c hc
  rcases Memory.mem_writeByte hc with hc | ⟨rfl, hv⟩
  · exact hm.2 c hc
  · exact ⟨hv, ha⟩

theorem State.wf_storeByte {s : State} (h : s.mem.wf) (a : Word) (v : Byte) : (s.storeByte a v).mem.wf :=
  Memory.wf_writeByte h a.isLt v

@[simp] theorem State.store_mem (s : State) (a : Word) (v n : Nat) : (s.store a v n).mem = (s.storeBytes a v n).mem := rfl

@[simp] theorem State.store_byteAt (s : State) (a b : Word) (v n : Nat) :
    (s.store a v n).byteAt b = (s.storeBytes a v n).byteAt b := rfl

theorem State.wf_storeBytes {s : State} (h : s.mem.wf) (a : Word) (v n : Nat) : (s.storeBytes a v n).mem.wf := by
  induction n generalizing s a v with
  | zero => exact h
  | succ n ih => exact ih (State.wf_storeByte h a _) (a + 1) (v / 256)

/-- A byte read after a byte stored. -/
theorem State.byteAt_storeByte {s : State} (h : s.mem.wf) (a b : Word) (v : Byte) :
    (s.storeByte a v).byteAt b = if a = b then v else s.byteAt b := by
  unfold State.byteAt State.storeByte
  rw [Memory.readByte_writeByte _ h.1]
  simp [BitVec.toNat_inj]

/-- `storeBytes` changes memory, nothing else. -/
theorem State.storeBytes_eq (s : State) (a : Word) (v n : Nat) :
    s.storeBytes a v n = { s with mem := (s.storeBytes a v n).mem } := by
  induction n generalizing s a v with
  | zero => rfl
  | succ n ih => exact ih (s.storeByte a _) (a + 1) (v / 256)

/-- A store changes memory and the fetch queue's copies, nothing else. -/
theorem State.store_eq (s : State) (a : Word) (v n : Nat) :
    s.store a v n = { s with mem := (s.store a v n).mem, stale := (s.store a v n).stale } := by
  rw [State.store, State.storeBytes_eq]

theorem State.wf_store {s : State} (h : s.mem.wf) (a : Word) (v n : Nat) : (s.store a v n).mem.wf :=
  State.wf_storeBytes h a v n

/-- Bytes outside the stored ones read as before. -/
theorem State.byteAt_storeBytes_other {s : State} (h : s.mem.wf) (a b : Word) (v n : Nat)
    (hb : ∀ k < n, b ≠ a + BitVec.ofNat 32 k) : (s.storeBytes a v n).byteAt b = s.byteAt b := by
  induction n generalizing s a v with
  | zero => rfl
  | succ n ih =>
    have h0 : a ≠ b := by
      have := hb 0 (by omega)
      simp at this
      exact fun e => this e.symm
    have step : (State.storeBytes s a v (n + 1)) = State.storeBytes (s.storeByte a (BitVec.ofNat 8 v)) (a + 1) (v / 256) n := rfl
    rw [step, ih (State.wf_storeByte h a _), State.byteAt_storeByte h, if_neg h0]
    intro k hk e
    refine hb (k + 1) (by omega) ?_
    rw [e, BitVec.ofNat_add, BitVec.add_assoc]
    congr 1
    exact BitVec.add_comm _ _

/-- The stored bytes, little-endian. -/
theorem State.byteAt_storeBytes_same {s : State} (h : s.mem.wf) (a : Word) (v n k : Nat) (hk : k < n)
    (hn : n ≤ 2 ^ 32) : (s.storeBytes a v n).byteAt (a + BitVec.ofNat 32 k) = BitVec.ofNat 8 (v / 256 ^ k) := by
  induction n generalizing s a v k with
  | zero => omega
  | succ n ih =>
    have step : (State.storeBytes s a v (n + 1)) = State.storeBytes (s.storeByte a (BitVec.ofNat 8 v)) (a + 1) (v / 256) n := rfl
    rw [step]
    cases k with
    | zero =>
      rw [State.byteAt_storeBytes_other (State.wf_storeByte h a _), State.byteAt_storeByte h]
      · simp
      · intro j hj e
        have e' := congrArg BitVec.toNat e
        simp [BitVec.toNat_add] at e'
        have := a.isLt
        omega
    | succ k =>
      have e : a + BitVec.ofNat 32 (k + 1) = (a + 1) + BitVec.ofNat 32 k := by
        rw [BitVec.ofNat_add, BitVec.add_assoc]
        congr 1
        exact BitVec.add_comm _ _
      rw [e, ih (State.wf_storeByte h a _) (a + 1) (v / 256) k (by omega) (by omega), Nat.div_div_eq_div_mul,
        Nat.pow_succ, Nat.mul_comm 256]

theorem reset_mem_wf : State.reset.mem.wf := by decide

end Sys2Proof.Machine
end

