-- ==== Sys2Proof/Laws/Ops.lean ====
section
/-! SUPPORT. One lemma for each shared operation that says everything it can answer. -/
namespace Sys2Proof.Machine

@[simp] theorem State.getReg_zero (s : State) : s.getReg 0 = 0 := rfl

/-- Reading a register after writing one (R16, R21). -/
theorem State.getReg_setReg (s : State) (r q : Reg) (v : Word) :
    (s.setReg r v).getReg q = if q = r ∧ r ≠ 0#5 then v else s.getReg q := by
  by_cases hr : r = 0#5
  · simp [State.setReg, hr]
  · by_cases hq : q = 0#5
    · subst hq; simp [State.getReg, hr, Ne.symm hr]
    · by_cases h : q = r
      · subst h; simp [State.setReg, State.getReg, hq]
      · have : r.toNat ≠ q.toNat := fun e => h (BitVec.eq_of_toNat_eq e.symm)
        simp [State.setReg, State.getReg, hr, hq, h, this]

/-- `advance` outside Debug Mode moves pc past the instruction. -/
theorem State.advance_pc {s : State} (h : s.debugMode = false) (len : Nat) :
    (s.advance len).pc = s.pc + BitVec.ofNat 32 len := by simp [State.advance, h]

theorem State.retire_pc {s : State} (h : s.debugMode = false) (len : Nat) :
    (s.retire len).pc = s.pc + BitVec.ofNat 32 len := by
  rw [State.retire, State.advance_pc (by simpa using h)]; simp

/-- Same pc, in Debug Mode: the Program Buffer has none. -/
theorem State.retire_pc_debug {s : State} (h : s.debugMode = true) (len : Nat) : (s.retire len).pc = s.pc := by
  simp [State.retire, State.advance, h]

@[simp] theorem State.byteAt_retire (s : State) (len : Nat) (a : Word) : (s.retire len).byteAt a = s.byteAt a := by
  simp [State.byteAt]

@[simp] theorem State.byteAt_setReg (s : State) (r : Reg) (v a : Word) : (s.setReg r v).byteAt a = s.byteAt a := by
  simp [State.byteAt]

@[simp] theorem State.countsInstret_setReg (s : State) (r : Reg) (v : Word) :
    (s.setReg r v).countsInstret = s.countsInstret := by simp [State.countsInstret]

theorem State.getReg_congr {s t : State} (h : s.regs = t.regs) (r : Reg) : s.getReg r = t.getReg r := by
  simp [State.getReg, h]

@[simp] theorem State.getReg_retire (s : State) (len : Nat) (r : Reg) : (s.retire len).getReg r = s.getReg r :=
  State.getReg_congr (by simp) r

/-- `raise` outside Debug Mode is the trap (R420). -/
theorem raise_running {s : State} (h : s.debugMode = false) (e : Exc) (tval : Word) :
    raise s e tval = .next (s.takeTrap false e.code tval s.pc) := by simp [raise, h]

/-- `raise` in Debug Mode ends the Program Buffer run and changes nothing else (R552). -/
theorem raise_debug {s : State} (h : s.debugMode = true) (e : Exc) (tval : Word) :
    raise s e tval = .next { s with pb := .exception } := by simp [raise, h]

/-- `raise` always goes on. -/
theorem raise_next (s : State) (e : Exc) (tval : Word) : ∃ t, raise s e tval = .next t := by
  unfold raise; split <;> exact ⟨_, rfl⟩

/-- A control transfer outside Debug Mode to a legal target. -/
theorem jumpTo_next {s : State} (h : s.debugMode = false) {target : Word}
    (ht : (!s.cfg.rvc && target.getLsbD 1) = false) (rd : Reg) (len : Nat) :
    jumpTo s rd len target = .next { ((s.countInstr s.countsInstret).setReg rd (s.pc + BitVec.ofNat 32 len)) with
      pc := target, seqWrap := false } := by
  unfold jumpTo
  rw [if_neg (by simp [h]), if_neg (by rw [ht]; simp)]

/-- Everything `jumpTo` can answer with a next state. -/
theorem jumpTo_cases {s t : State} {rd : Reg} {len : Nat} {target : Word} (h : jumpTo s rd len target = .next t) :
    s.debugMode = false ∧
    (((s.cfg.rvc = false ∧ target.getLsbD 1 = true) ∧ t = s.takeTrap false 0 target s.pc) ∨
     ((!s.cfg.rvc && target.getLsbD 1) = false ∧
      t = { ((s.countInstr s.countsInstret).setReg rd (s.pc + BitVec.ofNat 32 len)) with pc := target, seqWrap := false })) := by
  unfold jumpTo at h
  split at h
  · cases h
  · next hd =>
    have hd' : s.debugMode = false := by simpa using hd
    refine ⟨hd', ?_⟩
    split at h
    · next hm =>
      left
      refine ⟨by simpa using hm, ?_⟩
      rw [raise_running hd'] at h
      injection h with h
      exact h.symm
    · next hm =>
      right
      refine ⟨by simpa using hm, ?_⟩
      injection h with h
      exact h.symm

/-- Everything `memRead` can do: an access changes no state, so only its answer matters (R110). -/
theorem memRead_ok {s : State} {a : Word} {n : Nat} {v : Word} (h : memRead s a n = .ok v) :
    a.toNat % n = 0 ∧
    ((inTimer s.cfg a = true ∧ n = 4 ∧ timerRead s.timer (timerOffset a) = .ok v) ∨
     (inTimer s.cfg a = false ∧ v = BitVec.ofNat 32 (s.bytesAt a n))) := by
  unfold memRead at h
  split at h
  · cases h
  · next h0 =>
    refine ⟨by omega, ?_⟩
    split at h
    · next ht =>
      split at h
      · cases h
      · next h4 => exact Or.inl ⟨ht, by omega, h⟩
    · next ht =>
      right
      refine ⟨by simpa using ht, ?_⟩
      split at h
      · injection h with h; exact h.symm
      · split at h
        · cases h
        · split at h
          · cases h
          · injection h with h; exact h.symm

/-- A timer that settles has its prescaler inside the period and its registers as they were (R55). -/
theorem Timer.unsettle_inside (t : Timer) (p w : Nat) : (t.unsettle p w).prescaler < (t.unsettle p w).div.toNat + 1 :=
  Nat.mod_lt _ (Nat.succ_pos _)

@[simp] theorem Timer.unsettle_ctrl (t : Timer) (p w : Nat) : (t.unsettle p w).ctrl = t.ctrl := rfl
@[simp] theorem Timer.unsettle_div (t : Timer) (p w : Nat) : (t.unsettle p w).div = t.div := rfl
@[simp] theorem Timer.unsettle_mtime (t : Timer) (p w : Nat) : (t.unsettle p w).mtime = t.mtime := rfl
@[simp] theorem Timer.unsettle_mtimecmp (t : Timer) (p w : Nat) : (t.unsettle p w).mtimecmp = t.mtimecmp := rfl

/-- Everything the timer can do in `n` ticks of its clock: those of a write that settles add any number of ticks to MTIME, one
each at most, the others one for each whole period (R440). -/
theorem Timer.advance_spec (t : Timer) (n free : Nat) : ∃ j k : Nat,
    j ≤ min n t.settle ∧ t.prescaler + (n - min n t.settle) = k * (t.div.toNat + 1) + (t.advance n free).prescaler ∧
    (t.advance n free).prescaler < t.div.toNat + 1 ∧
    t.advance n free = { t with
      mtime := t.mtime + BitVec.ofNat 64 (j + k)
      prescaler := (t.advance n free).prescaler
      settle := t.settle - min n t.settle } :=
  ⟨free % (min n t.settle + 1), (t.prescaler + (n - min n t.settle)) / (t.div.toNat + 1),
    Nat.le_of_lt_succ (Nat.mod_lt _ (Nat.succ_pos _)), (Nat.div_add_mod' _ _).symm, Nat.mod_lt _ (Nat.succ_pos _), rfl⟩

/-- A write of a timer register puts the prescaler inside the period, or leaves it and the period as they were (R55, R440). -/
theorem timerWrite_prescaler {t u : Timer} {p w off : Nat} {v : Word} (h : timerWrite t p w off v = .ok u) :
    u.prescaler < u.div.toNat + 1 ∨ (u.prescaler = t.prescaler ∧ u.div = t.div) := by
  unfold timerWrite at h
  split at h <;> cases h <;> first | exact .inl (Timer.unsettle_inside _ p w) | exact .inr ⟨rfl, rfl⟩

/-- Everything `memWrite` can do when it goes on: a timer register or the stored bytes change (R111). -/
theorem memWrite_ok {s t : State} {a : Word} {n : Nat} {v : Word} (h : memWrite s a n v = .ok t) :
    a.toNat % n = 0 ∧
    ((inTimer s.cfg a = true ∧ n = 4 ∧
      ∃ tm, timerWrite s.timer (Config.prescalerAfterWrite s.freeCtr) (Config.settleAfterWrite s.freeCtr) (timerOffset a) v =
        .ok tm ∧ t = { s with timer := tm }) ∨
     (inTimer s.cfg a = false ∧ t = s.store a v.toNat n)) := by
  unfold memWrite at h
  split at h
  · cases h
  · next h0 =>
    refine ⟨by omega, ?_⟩
    split at h
    · next ht =>
      split at h
      · cases h
      · next h4 =>
        split at h
        · next tm htm =>
          injection h with h
          exact Or.inl ⟨ht, by omega, tm, htm, h.symm⟩
        all_goals cases h
    · next ht =>
      right
      refine ⟨by simpa using ht, ?_⟩
      split at h
      · injection h with h; exact h.symm
      · split at h
        · cases h
        · split at h
          · cases h
          · injection h with h; exact h.symm

/-- Everything `csrInstr` can do when it goes on (R280): the exception, or read, write, count and advance. -/
theorem csrInstr_cases {s t : State} {instr : Word} {rd : Reg} {a : BitVec 12} {writes plain : Bool} {new : Word → Word}
    (h : csrInstr s instr rd a writes plain new = .next t) :
    ((csrExists s a = false ∨ (writes = true ∧ csrReadOnly a = true)) ∧ raise s .illegal instr = .next t) ∨
    (csrExists s a = true ∧ (writes && csrReadOnly a) = false ∧
      ∃ s', (if writes then csrWrite s a (new (csrRead s a)) else .next s) = .next s' ∧
        t = ((State.countCsr s s' a writes).setReg rd (csrRead s a)).advance 4) := by
  unfold csrInstr at h
  split at h
  · next h1 => exact Or.inl ⟨Or.inl (by simpa using h1), h⟩
  · next h1 =>
    split at h
    · next h2 => exact Or.inl ⟨Or.inr (by simpa using h2), h⟩
    · next h2 =>
      split at h
      · cases h
      · right
        refine ⟨by simpa using h1, by simpa using h2, ?_⟩
        simp only at h
        split at h
        · next s' hs' =>
          injection h with h
          exact ⟨s', hs', h.symm⟩
        all_goals cases h

/-- An MCONTROL write goes on with the state unchanged or with the selected trigger replaced. -/
theorem writeMcontrol_cases {s t : State} {x : Trigger} {v : Word} (h : writeMcontrol s x v = .next t) :
    t = s ∨ ∃ y : Trigger, y.tdata2 = x.tdata2 ∧ t = putSelected s y := by
  unfold writeMcontrol at h
  split at h
  · injection h with h; exact Or.inl h.symm
  · split at h
    · cases h
    · injection h with h; refine Or.inr ⟨_, ?_, h.symm⟩; rfl

/-- A TDATA1 write goes on with the state unchanged or with the selected trigger replaced (R571). -/
theorem writeTdata1_cases {s t : State} {v : Word} (h : writeTdata1 s v = .next t) :
    t = s ∨ ∃ y, t = putSelected s y := by
  unfold writeTdata1 at h
  split at h
  · injection h with h; exact Or.inl h.symm
  · split at h
    · injection h with h; exact Or.inl h.symm
    · split at h
      · rcases writeMcontrol_cases h with h | ⟨y, _, h⟩
        · exact Or.inl h
        · exact Or.inr ⟨y, h⟩
      · split at h
        · unfold writeIcount at h
          dsimp only at h
          split at h
          · cases h
          · injection h with h; exact Or.inr ⟨_, h.symm⟩
        · injection h with h; exact Or.inl h.symm

/-- What a CSR write leaves alone: registers, pc, memory, timer, pins, configuration and the mode. -/
structure CsrFrame (s t : State) : Prop where
  cfg : t.cfg = s.cfg
  regs : t.regs = s.regs
  pc : t.pc = s.pc
  seqWrap : t.seqWrap = s.seqWrap
  sleeping : t.sleeping = s.sleeping
  debugMode : t.debugMode = s.debugMode
  waiting : t.waiting = s.waiting
  stale : t.stale = s.stale
  timer : t.timer = s.timer
  pins : t.pins = s.pins
  pb : t.pb = s.pb
  scu : t.scu = s.scu
  tap : t.tap = s.tap
  mem : t.mem = s.mem
  freeCtr : t.freeCtr = s.freeCtr
  inputs : t.inputs = s.inputs

theorem putSelected_frame (s : State) (y : Trigger) : CsrFrame s (putSelected s y) := by
  constructor <;> rfl

/-- `csrWrite` changes CSRs, the IPIC, the debug CSRs and the triggers only. -/
theorem csrWrite_frame {s t : State} {a : BitVec 12} {v : Word} (h : csrWrite s a v = .next t) : CsrFrame s t := by
  unfold csrWrite at h
  split at h
  case h_3 =>
    unfold writeMtvec at h
    split at h
    · cases h
    · injection h with h; subst h; constructor <;> rfl
  case h_13 =>
    rcases writeTdata1_cases h with rfl | ⟨y, rfl⟩
    · constructor <;> rfl
    · exact putSelected_frame s y
  case h_12 =>
    injection h with h
    subst h
    unfold writeTselect
    split <;> constructor <;> rfl
  case h_14 =>
    injection h with h
    subst h
    unfold writeTdata2
    split
    · constructor <;> rfl
    · split
      · constructor <;> rfl
      · exact putSelected_frame _ _
  all_goals
    injection h with h
    subst h
    constructor <;> rfl

end Sys2Proof.Machine
end

