-- ==== Sys2Proof/Laws/Results.lean ====
section
/-! SUPPORT. What the shared operations that finish an instruction do, in the terms of Sys2Proof/Safety.lean: each lemma
says everything its operation can answer. -/
namespace Sys2Proof.Machine

/-- A result written back and the instruction retired (R200). -/
theorem retire_writesReg (s : State) (rd : Reg) (v : Word) (len : Nat) :
    WritesReg s ((s.setReg rd v).retire len) rd v len := by
  constructor
  · intro q; rw [State.getReg_retire, State.getReg_setReg]
  · cases h : s.debugMode
    · rw [State.retire_pc (by simpa using h)]; simp [State.nextPc, h]
    · rw [State.retire_pc_debug (by simpa using h)]; simp [State.nextPc, h]
  · simp only [State.retire, State.advance, State.nextWraps]; cases h : s.debugMode <;> simp [h]
  · unfold State.retire State.advance State.countInstr Csrs.retired; simp; split <;> simp
  · simp
  all_goals constructor <;> simp

/-- `writeBack` always goes on. -/
theorem writeBack_next (s : State) (rd : Reg) (v : Word) (len : Nat) :
    ∃ t, writeBack s rd v len = .next t ∧ WritesReg s t rd v len :=
  ⟨_, rfl, retire_writesReg s rd v len⟩

/-- Retirement alone (R25, R44). -/
theorem retire_retires (s : State) (len : Nat) : Retires s (s.retire len) len := by
  have h : WritesReg s (s.retire len) 0 0 len := retire_writesReg s 0 0 len
  exact ⟨fun q => by simp, h.pc, h.seqWrap, h.csr, h.sleeping, h.mode, h.units, h.memory⟩

/-- MSTATUS after the entry (R420). -/
theorem trapStatus_bits (m : Word) :
    (trapStatus m).getLsbD 7 = m.getLsbD 3 ∧ (trapStatus m).getLsbD 3 = false ∧ trapStatus m &&& ~~~0x88 = 0x1800 := by
  unfold trapStatus
  cases h : m.getLsbD 3 <;> simp

/-- MSTATUS after MRET (R273). -/
theorem mretStatus_bits (m : Word) :
    (mretStatus m).getLsbD 3 = m.getLsbD 7 ∧ (mretStatus m).getLsbD 7 = true ∧ mretStatus m &&& ~~~0x88 = 0x1800 := by
  unfold mretStatus
  cases h : m.getLsbD 7 <;> simp

/-- MCAUSE of a trap (R40). -/
theorem causeWord_eq (isInt : Bool) (code : BitVec 4) :
    causeWord isInt code = (if isInt then 0x80000000#32 else 0#32) + code.setWidth 32 := by
  revert code; cases isInt <;> decide

/-- The offset of an interrupt's vector (R421). -/
theorem vectorOffset_eq (code : BitVec 4) : BitVec.ofNat 32 (4 * code.toNat) = (code ++ 0#2).setWidth 32 := by
  revert code; decide

/-- Taking an exception or an interrupt, and all that it changes (R420, R421). -/
theorem takeTrap_traps (s : State) (isInt : Bool) (code : BitVec 4) (tval : Word) :
    Traps s (s.takeTrap isInt code tval s.pc) isInt code tval := by
  obtain ⟨h7, h3, hp⟩ := trapStatus_bits s.csr.mstatus
  constructor
  case mepc => simp only [State.takeTrap, mepcBits]; split <;> rfl
  case mcause => exact causeWord_eq isInt code
  case mtval => rfl
  case mpie => exact h7
  case mie => exact h3
  case mpp => exact hp
  case otherCsrs => rfl
  case pc => simp only [State.takeTrap, vector, vectorOffset_eq]; split <;> simp_all
  all_goals first | rfl | (constructor <;> intros <;> rfl) | (intro q; rfl)

/-- `raise` outside Debug Mode (R420). -/
theorem raise_traps {s : State} (h : s.debugMode = false) (e : Exc) (tval : Word) :
    ∃ t, raise s e tval = .next t ∧ Traps s t false e.code tval :=
  ⟨_, raise_running h e tval, takeTrap_traps s false e.code tval⟩

/-- A control transfer outside Debug Mode: the jump, or the trap for its target (R230, R231). -/
theorem jumpTo_outcome {s : State} (h : s.debugMode = false) (rd : Reg) (len : Nat) (target : Word) :
    ((s.cfg.rvc = true ∨ target.getLsbD 1 = false) →
      ∃ t, jumpTo s rd len target = .next t ∧ Jumps s t rd (s.pc + BitVec.ofNat 32 len) target) ∧
    (s.cfg.rvc = false → target.getLsbD 1 = true →
      ∃ t, jumpTo s rd len target = .next t ∧ Traps s t false 0 target) := by
  constructor
  · intro ht
    refine ⟨_, jumpTo_next h (by rcases ht with h | h <;> simp_all) rd len, ?_⟩
    constructor
    case regs => exact fun q => State.getReg_setReg (s.countInstr s.countsInstret) rd q (s.pc + BitVec.ofNat 32 len)
    case mode => constructor <;> simp
    case units => constructor <;> simp
    case memory => constructor <;> simp [State.byteAt]
    all_goals simp
  · intro hc hb
    refine ⟨_, ?_, takeTrap_traps s false 0 target⟩
    unfold jumpTo
    rw [if_neg (by simp [h]), if_pos (by simp_all), raise_running h]
    rfl

/-- A branch that is not taken retires; one that is taken jumps and writes no register (R230). -/
theorem branchIf_not_taken (s : State) (off : Word) (len : Nat) :
    ∃ t, branchIf s false off len = .next t ∧ Retires s t len := ⟨_, rfl, retire_retires s len⟩
theorem branchIf_taken (s : State) (off : Word) (len : Nat) : branchIf s true off len = jumpTo s 0 len (s.pc + off) := rfl

/-- Memory answers an aligned load of a RAM address (R110). -/
theorem memRead_ram {s : State} {a : Word} {n : Nat} (h : RamAt s false a n) :
    memRead s a n = .ok (BitVec.ofNat 32 (s.bytesAt a n)) := by
  obtain ⟨h1, h2, h3⟩ := h
  unfold memRead
  rw [if_neg (by simp [h1]), if_neg (by simp [h2])]
  rcases h3 with h3 | ⟨h3, h4⟩
  · simp [h3]
  · split
    · rfl
    · simp [h3, h4]

/-- Memory takes an aligned store to a RAM address (R111). -/
theorem memWrite_ram {s : State} {a : Word} {n : Nat} (h : RamAt s true a n) (v : Word) :
    memWrite s a n v = .ok (s.store a v.toNat n) := by
  obtain ⟨h1, h2, h3⟩ := h
  unfold memWrite
  rw [if_neg (by simp [h1]), if_neg (by simp [h2])]
  rcases h3 with h3 | ⟨h3, h4⟩
  · simp [h3]
  · split
    · rfl
    · simp [h3, h4]

/-- A load from RAM completes (R250). -/
theorem loadTo_ram {s : State} {a : Word} {n : Nat} (h : RamAt s false a n) (rd : Reg) (ext : Word → Word) (len : Nat) :
    ∃ t, loadTo s rd a n ext len = .next t ∧ WritesReg s t rd (ext (BitVec.ofNat 32 (s.bytesAt a n))) len := by
  refine ⟨_, ?_, retire_writesReg s rd _ len⟩
  rw [loadTo, memRead_ram h]; rfl

/-- A store to RAM completes: the bytes change, and apart from them it retires (R250). -/
theorem storeTo_ram {s : State} {a : Word} {n : Nat} (h : RamAt s true a n) (v : Word) (len : Nat) :
    ∃ t, storeTo s a n v len = .next t ∧ (∀ b, t.byteAt b = (s.storeBytes a v.toNat n).byteAt b) ∧
      Retires s { t with mem := s.mem, stale := s.stale } len := by
  refine ⟨_, by rw [storeTo, memWrite_ram h], fun b => by simp, ?_⟩
  have hr := retire_retires s len
  rw [State.store_eq]
  have e : ({ ({ s with mem := (s.store a v.toNat n).mem, stale := (s.store a v.toNat n).stale } : State).retire
      len with mem := s.mem, stale := s.stale } : State) = s.retire len := by
    simp only [State.retire, State.advance]; cases hd : s.debugMode <;> simp [hd, State.countInstr] <;> first | rfl | exact ⟨rfl, rfl⟩
  rw [e]; exact hr

/-- A load that is never answered leaves the hart waiting, and nothing else changes (R106, R614). -/
theorem loadTo_hang {s : State} {a : Word} {n : Nat} (h : HangAt s false a n) (rd : Reg) (ext : Word → Word) (len : Nat) :
    loadTo s rd a n ext len = .next s.wait := by
  obtain ⟨h1, h2, h3, h4⟩ := h
  simp [loadTo, memRead, h1, h2, h3, h4]

/-- The same for a store. -/
theorem storeTo_hang {s : State} {a : Word} {n : Nat} (h : HangAt s true a n) (v : Word) (len : Nat) :
    storeTo s a n v len = .next s.wait := by
  obtain ⟨h1, h2, h3, h4⟩ := h
  simp [storeTo, memWrite, h1, h2, h3, h4]

/-- Entry to Debug Mode, and all that it changes (R540). -/
theorem enterDebug_enters (s : State) (cause : BitVec 3) (dpc : Word) : EntersDebug s (s.enterDebug cause dpc) cause dpc := by
  have hbits : ∀ (c : BitVec 3) (k : Nat), k < 32 →
      (BitVec.ofNat 32 (c.toNat * 64)).getLsbD k = (decide (6 ≤ k) && c.getLsbD (k - 6)) := by decide
  have hmask : ∀ k : Nat, k < 32 → (0xFFFFFE3F : Word).getLsbD k = !(decide (6 ≤ k) && decide (k < 9)) := by decide
  have hc : ∀ k : Nat, k < 32 → (0x1C0 : Word).getLsbD k = (decide (6 ≤ k) && decide (k < 9)) := by decide
  constructor
  case cause =>
    ext k hk
    simp only [State.enterDebug, BitVec.getElem_extractLsb', BitVec.getLsbD_or, BitVec.getLsbD_and]
    rw [hbits cause (6 + k) (by omega), hmask (6 + k) (by omega)]
    simp [hk, show 6 + k < 9 by omega]
  case otherDcsr =>
    ext k hk
    simp only [State.enterDebug, ← BitVec.getLsbD_eq_getElem, BitVec.getLsbD_or, BitVec.getLsbD_and, BitVec.getLsbD_not]
    rw [hbits cause k hk, hmask k hk, hc k hk]
    by_cases h6 : 6 ≤ k <;> by_cases h9 : k < 9 <;> simp [h6, h9]
    simp [BitVec.getLsbD_of_ge cause (k - 6) (by omega)]
  all_goals first | rfl | (constructor <;> intros <;> rfl) | (intro q; rfl)

/-- WFI sleeps exactly where nothing forbids it (R274, R542, R555). -/
theorem waitForInterrupt_cases (s : State) :
    (s.debugMode = true ∨ s.stepping = true ∨ s.wakes = true → waitForInterrupt s = s) ∧
    (s.debugMode = false → s.stepping = false → s.wakes = false → waitForInterrupt s = { s with sleeping := true }) := by
  constructor
  · intro h; unfold waitForInterrupt; rw [if_pos]; simpa [or_assoc] using h
  · intro h1 h2 h3; simp [waitForInterrupt, h1, h2, h3]

/-- No interrupt is taken while MSTATUS.MIE is clear or no enabled one is pending (R413). -/
theorem pendingInterrupt_none {s : State} (h : s.csr.mstatus.getLsbD 3 = false ∨ s.wakes = false) :
    pendingInterrupt s = none := by
  unfold pendingInterrupt
  rcases h with h | h
  · rw [h]; rfl
  · unfold State.wakes at h
    simp only [Bool.or_eq_false_iff] at h
    rw [h.1.1, h.1.2, h.2]; simp

end Sys2Proof.Machine
end

