-- ==== Sys2Proof/Laws/Debug.lean ====
section
/-! SUPPORT. What an outside event does to a machine that no reset holds, and what triggers that are disabled do. -/
namespace Sys2Proof.Machine

/-! ## Resets -/

/-- No reset of the hart is asserted: no source of it is (R511, R643). -/
theorem coreReset_false {s : State} : s.coreReset = false ↔
    s.pins.pwrup = false ∧ s.pins.rst = false ∧ s.dm.ndmreset = false ∧ s.scu.control.getLsbD 0 = false ∧
    s.pins.cpu = false ∧ s.scu.control.getLsbD 1 = false := by
  simp only [State.coreReset, State.sysReset, Bool.or_eq_false_iff, and_assoc]

/-- SCU STATUS reads 0 where no reset is asserted (R514). -/
theorem scuStatus_quiet {s : State} (h : s.coreReset = false) : s.scuStatus = 0 := by
  obtain ⟨h1, -, -, h4, -, -⟩ := coreReset_false.1 h
  have hs : s.sysReset = false := by
    simp only [State.coreReset, Bool.or_eq_false_iff] at h; exact h.1.1
  simp only [State.scuStatus, State.dmReset, State.hduReset, h, hs, h1, h4]
  rfl

/-- An event that leaves every reset de-asserted, and did not end one, is not followed by a reset (R650). -/
theorem settle_quiet {before s : State} (hb : before.coreReset = false) (h : s.coreReset = false) (ht : s.tapReset = false) :
    State.settle before s = s := by
  obtain ⟨h1, -, -, h4, -, -⟩ := coreReset_false.1 h
  have e : s.settleScu = s := by simp [State.settleScu, h1, scuStatus_quiet h]
  have hd : s.dmReset = false := by simp only [State.dmReset, h1, h4]; rfl
  have hh : s.hduReset = false := by simp only [State.hduReset, h1, h]; rfl
  have ha : s.applyResets = s := by simp [State.applyResets, e, ht, hd, h, hh]
  simp [State.settle, ha, hb]

/-! ## Events -/

/-- A step whose next event is not `run` is that event, and the clock (R13; log 12). -/
theorem step_event {s : State} {e : HostEvent} {rest : List HostEvent} (h : s.inputs = e :: rest) (he : e ≠ .run) :
    step s = tickResult (hostEvent e { s with inputs := rest }) := by
  unfold step
  rw [h]
  cases e <;> first | rfl | exact absurd rfl he

/-- An event on a machine that no reset holds, which raises none: its effect, and the clock. -/
theorem step_event_next {s t : State} {e : HostEvent} {rest : List HostEvent} (h : s.inputs = e :: rest) (he : e ≠ .run)
    (hs : s.coreReset = false) (ht : eventEffect { s with inputs := rest } e = .next t) (hc : t.coreReset = false)
    (hj : t.tapReset = false) : step s = .next t.tick := by
  have hs' : ({ s with inputs := rest } : State).coreReset = false := hs
  rw [step_event h he]
  simp only [hostEvent, ht, settle_quiet hs' hc hj, tickResult]

/-- An event that is refused. -/
theorem step_event_refused {s : State} {r : Refusal} {e : HostEvent} {rest : List HostEvent} (h : s.inputs = e :: rest)
    (he : e ≠ .run) (hr : eventEffect { s with inputs := rest } e = .refused r) : step s = .refused r := by
  rw [step_event h he]
  simp only [hostEvent, hr, tickResult]

/-! ## Disabled triggers (R572, R573, R576) -/

theorem condition_disabled {t : Trigger} (h : t.disabled = true) (pc : Word) (d : DataAccess) : t.condition pc d = false := by
  unfold Trigger.disabled at h
  unfold Trigger.condition
  cases hm : (t.isMcontrol && t.mcontrolM) <;> simp_all

theorem matchChain_disabled {ts : List Trigger} (h : ∀ t ∈ ts, t.disabled = true) (pc : Word) (d : DataAccess) (b : Bool) :
    matchChain pc d b ts = List.replicate ts.length false := by
  induction ts generalizing b with
  | nil => rfl
  | cons t ts ih =>
    have ht := condition_disabled (h t List.mem_cons_self) pc d
    simp only [matchChain, ht, Bool.and_false, List.length_cons, List.replicate_succ]
    rw [ih (fun x hx => h x (List.mem_cons_of_mem _ hx))]

theorem setHits_none (ts : List Trigger) : setHits ts (List.replicate ts.length false) = ts := by
  unfold setHits
  induction ts with
  | nil => rfl
  | cons t ts ih => simp only [List.length_cons, List.replicate_succ, List.zipWith_cons_cons, ih]; rfl

theorem firing_none (ts : List Trigger) : firing ts (List.replicate ts.length false) = [] := by
  unfold firing
  induction ts with
  | nil => rfl
  | cons t ts ih =>
    simp only [List.length_cons, List.replicate_succ, List.zip_cons_cons, List.filter_cons, Bool.false_and, Bool.false_eq_true,
      if_false]
    exact ih

/-- Disabled triggers set no hit and fire nothing. -/
theorem checkTriggers_disabled {s : State} (h : ∀ t ∈ s.triggers, t.disabled = true) (d : DataAccess) :
    checkTriggers s d = (s, none) := by
  simp only [checkTriggers, matchChain_disabled h, setHits_none, firing_none]
  rfl

theorem debugTriggerAt_disabled {s : State} (h : ∀ t ∈ s.triggers, t.disabled = true) (d : DataAccess) :
    debugTriggerAt s d = false := by
  unfold debugTriggerAt
  rw [matchChain_disabled h, firing_none]
  rfl

theorem icountActive_disabled {s : State} (h : ∀ t ∈ s.triggers, t.disabled = true) : icountActive s = none := by
  unfold icountActive
  rw [List.find?_eq_none]
  intro t ht
  have := h t ht
  unfold Trigger.disabled at this
  cases hi : (t.isIcount && t.icountM) <;> simp_all

theorem addressFires_disabled {s : State} (h : ∀ t ∈ s.triggers, t.disabled = true) : addressFires s = false := by
  simp only [addressFires, checkTriggers_disabled h]
  rfl

theorem icountFires_disabled {s : State} (h : ∀ t ∈ s.triggers, t.disabled = true) (t : State) :
    icountFires s t = false := by
  simp only [icountFires, icountActive_disabled h, Bool.and_false]

/-! ## The top of the address space (R26, D11) -/

/-- An instruction that does not end in the flow past the top is followed by ICOUNT and single step as ever. -/
theorem leavesPastTop_inside {s : State} (h : s.seqWrap = false) (before : State) : leavesPastTop before s = false := by
  simp only [leavesPastTop, h, Bool.false_and]

/-- Nothing but ICOUNT and single step asks whether the flow went past the top. -/
theorem leavesPastTop_disabled {before : State} (h : ∀ t ∈ before.triggers, t.disabled = true)
    (hs : before.stepping = false) (s : State) : leavesPastTop before s = false := by
  simp only [leavesPastTop, icountFires_disabled h, hs, Bool.or_self, Bool.and_false]

/-- A single step that ends past the top is refused. -/
theorem runOne_step_pastTop {s s' : State} (h : runInstr s = .next s') (hw : s'.waiting = false) (ht : s'.seqWrap = true)
    (hs : s.stepping = true) : runOne s = .refused .pcPastTop := by
  simp only [runOne, h, hw, leavesPastTop, ht, hs, Bool.or_true, Bool.and_self, Bool.false_eq_true, if_false, if_true]

/-- An instruction after which ICOUNT fires past the top is refused. -/
theorem runOne_icount_pastTop {s s' : State} (h : runInstr s = .next s') (hw : s'.waiting = false) (ht : s'.seqWrap = true)
    (hi : icountFires s s' = true) : runOne s = .refused .pcPastTop := by
  simp only [runOne, h, hw, leavesPastTop, ht, hi, Bool.true_or, Bool.and_self, Bool.false_eq_true, if_false, if_true]

/-! ## What firing triggers do, and what ends a single step (R540, R542, R577) -/

/-- Firing triggers either enter Debug Mode or take the breakpoint trap, at the pc (R577, D50). -/
theorem fireAction_cases {s u : State} {fs : List Trigger} (h : fireAction s fs = some u) :
    EntersDebug s u causeTrigger s.pc ∨ ∃ a, Traps s u false 3 (triggerTval s a) := by
  unfold fireAction at h
  split at h
  · cases h
  · split at h <;> cases h
    · exact .inl (enterDebug_enters s _ _)
    · exact .inr ⟨_, takeTrap_traps s false _ _⟩

/-- Nothing follows an instruction that is not stepped. -/
theorem afterStep_free {before : State} (h : before.stepping = false) (fired : Bool) (s : State) :
    afterStep fired before s = s := by
  simp only [afterStep, h, Bool.false_and, Bool.false_eq_true, if_false]

/-- A stepped instruction that ends outside Debug Mode enters it. -/
theorem afterStep_enters {before s : State} (h : before.stepping = true) (hs : s.debugMode = false) (fired : Bool) :
    EntersDebug s (afterStep fired before s) (stepCause fired s) s.pc := by
  simp only [afterStep, h, hs, Bool.not_false, Bool.and_self, if_true]
  exact enterDebug_enters s _ _

/-! ## Commands that fail (R529, R534) -/

/-- A failed command leaves the hart as it was. -/
theorem failCommand_sameHart (s : State) (e : BitVec 3) : SameHart s (s.failCommand e) :=
  ⟨fun _ => rfl, rfl, rfl, rfl, rfl, ⟨rfl, rfl, rfl, rfl, rfl⟩, ⟨fun _ => rfl, rfl⟩, rfl, rfl, rfl, rfl, rfl, rfl, rfl⟩

/-- Of the Debug Module it leaves all but cmderr, DATA0 and DATA1. -/
theorem failCommand_dm (s : State) (e : BitVec 3) : (s.failCommand e).dm =
    { s.dm with cmderr := e, data0 := (s.failCommand e).dm.data0, data1 := (s.failCommand e).dm.data1 } := rfl

end Sys2Proof.Machine
end

