-- ==== Sys2Proof/Laws/Encode.lean ====
section
/-! SUPPORT. The columns of an encoded word, read back: what a proof that decode and encode agree needs. -/
namespace Sys2Proof

theorem toNat_extract {n : Nat} (x : BitVec n) (lo len : Nat) : (x.extractLsb' lo len).toNat = x.toNat / 2 ^ lo % 2 ^ len := by
  simp [BitVec.extractLsb'_toNat, Nat.shiftRight_eq_div_pow]

/-- A word of six columns as a number. -/
theorem toNat_pack32 (a : BitVec 7) (b c : BitVec 5) (d : BitVec 3) (e : BitVec 5) (f : BitVec 7) :
    (pack32 a b c d e f).toNat = a.toNat * 2 ^ 25 + b.toNat * 2 ^ 20 + c.toNat * 2 ^ 15 + d.toNat * 2 ^ 12
      + e.toNat * 2 ^ 7 + f.toNat := by
  have := a.isLt; have := b.isLt; have := c.isLt; have := d.isLt; have := e.isLt; have := f.isLt
  simp only [pack32, BitVec.toNat_ofNat]
  omega

section
variable (a : BitVec 7) (b c : BitVec 5) (d : BitVec 3) (e : BitVec 5) (f : BitVec 7)


@[simp] theorem pack32_op : (pack32 a b c d e f).extractLsb' 0 7 = f := by
  have := f.isLt
  apply BitVec.eq_of_toNat_eq; rw [toNat_extract, toNat_pack32]; omega
@[simp] theorem pack32_rd : (pack32 a b c d e f).extractLsb' 7 5 = e := by
  have := f.isLt; have := e.isLt
  apply BitVec.eq_of_toNat_eq; rw [toNat_extract, toNat_pack32]; omega
@[simp] theorem pack32_f3 : (pack32 a b c d e f).extractLsb' 12 3 = d := by
  have := f.isLt; have := e.isLt; have := d.isLt
  apply BitVec.eq_of_toNat_eq; rw [toNat_extract, toNat_pack32]; omega
@[simp] theorem pack32_rs1 : (pack32 a b c d e f).extractLsb' 15 5 = c := by
  have := f.isLt; have := e.isLt; have := d.isLt; have := c.isLt
  apply BitVec.eq_of_toNat_eq; rw [toNat_extract, toNat_pack32]; omega
@[simp] theorem pack32_rs2 : (pack32 a b c d e f).extractLsb' 20 5 = b := by
  have := f.isLt; have := e.isLt; have := d.isLt; have := c.isLt; have := b.isLt
  apply BitVec.eq_of_toNat_eq; rw [toNat_extract, toNat_pack32]; omega
@[simp] theorem pack32_f7 : (pack32 a b c d e f).extractLsb' 25 7 = a := by
  have := f.isLt; have := e.isLt; have := d.isLt; have := c.isLt; have := b.isLt; have := a.isLt
  apply BitVec.eq_of_toNat_eq; rw [toNat_extract, toNat_pack32]; omega
end

/-- A word is its six columns. -/
theorem pack32_columns (x : BitVec 32) : pack32 (x.extractLsb' 25 7) (x.extractLsb' 20 5) (x.extractLsb' 15 5)
    (x.extractLsb' 12 3) (x.extractLsb' 7 5) (x.extractLsb' 0 7) = x := by
  have := x.isLt
  apply BitVec.eq_of_toNat_eq
  simp only [toNat_pack32, toNat_extract]
  omega

/-- I-imm read back. -/
@[simp] theorem encI_imm (f3 : BitVec 3) (op : BitVec 7) (rd rs1 : Reg) (imm : BitVec 12) :
    (encI f3 op rd rs1 imm).extractLsb' 20 12 = imm := by
  have h1 := rs1.isLt; have h2 := f3.isLt; have h3 := rd.isLt; have h4 := op.isLt; have h5 := imm.isLt
  apply BitVec.eq_of_toNat_eq
  simp only [encI, toNat_extract, toNat_pack32]
  omega

/-- S-imm read back. -/
@[simp] theorem immS_encS (f3 : BitVec 3) (rs1 rs2 : Reg) (imm : BitVec 12) : immS (encS f3 rs1 rs2 imm) = imm := by
  have h5 := imm.isLt
  have e1 := congrArg BitVec.toNat (pack32_f7 (imm.extractLsb' 5 7) rs2 rs1 f3 (imm.extractLsb' 0 5) 0x23)
  have e2 := congrArg BitVec.toNat (pack32_rd (imm.extractLsb' 5 7) rs2 rs1 f3 (imm.extractLsb' 0 5) 0x23)
  simp only [toNat_extract] at e1 e2
  apply BitVec.eq_of_toNat_eq
  simp only [immS, encS, gather, gatherFrom, BitVec.toNat_ofNat, e1, e2]
  omega

/-- One piece appended at the low end, bit by bit. -/
theorem testBit_snoc (acc f len i : Nat) :
    (acc * 2 ^ len + f % 2 ^ len).testBit i = if i < len then f.testBit i else acc.testBit (i - len) := by
  rw [Nat.mul_comm, Nat.testBit_two_pow_mul_add _ (Nat.mod_lt _ (Nat.two_pow_pos _))]
  by_cases h : i < len <;> simp [h]

/-- B-imm of a word whose two immediate columns hold the pieces of `off`. -/
theorem immB_of_columns (x : BitVec 32) (off : BitVec 12) (h7 : x.extractLsb' 25 7 = gather 7 off [(11, 1), (4, 6)])
    (h5 : x.extractLsb' 7 5 = gather 5 off [(0, 4), (10, 1)]) : immB x = off := by
  apply BitVec.eq_of_getLsbD_eq
  intro i hi
  have e7 := fun j => congrArg (fun b => b.getLsbD j) h7
  have e5 := fun j => congrArg (fun b => b.getLsbD j) h5
  simp only [immB, gather, gatherFrom, BitVec.getLsbD_ofNat, testBit_snoc, BitVec.getLsbD_extractLsb',
    Nat.testBit_div_two_pow, BitVec.testBit_toNat] at *
  have a0 := e5 0; have a1 := e5 1; have a2 := e5 2; have a3 := e5 3; have a4 := e5 4
  have b0 := e7 0; have b1 := e7 1; have b2 := e7 2; have b3 := e7 3; have b4 := e7 4; have b5 := e7 5; have b6 := e7 6
  clear e5 e7 h7 h5
  simp at *
  interval_cases i <;> simp [*]

/-- B-imm read back. -/
@[simp] theorem immB_encB (f3 : BitVec 3) (rs1 rs2 : Reg) (off : BitVec 12) : immB (encB f3 rs1 rs2 off) = off :=
  immB_of_columns _ _ (pack32_f7 ..) (pack32_rd ..)

/-- The three fields of a 16-bit word. -/
theorem toNat_pack16 (f3 : BitVec 3) (mid : BitVec 11) (op : BitVec 2) :
    (pack16 f3 mid op).toNat = f3.toNat * 2 ^ 13 + mid.toNat * 4 + op.toNat := by
  have := f3.isLt; have := mid.isLt; have := op.isLt
  simp only [pack16, BitVec.toNat_ofNat]
  omega

@[simp] theorem pack16_op (f3 : BitVec 3) (mid : BitVec 11) (op : BitVec 2) : (pack16 f3 mid op).extractLsb' 0 2 = op := by
  have := op.isLt
  apply BitVec.eq_of_toNat_eq; rw [toNat_extract, toNat_pack16]; omega
@[simp] theorem pack16_f3 (f3 : BitVec 3) (mid : BitVec 11) (op : BitVec 2) : (pack16 f3 mid op).extractLsb' 13 3 = f3 := by
  have := op.isLt; have := mid.isLt; have := f3.isLt
  apply BitVec.eq_of_toNat_eq; rw [toNat_extract, toNat_pack16]; omega
@[simp] theorem pack16_mid (f3 : BitVec 3) (mid : BitVec 11) (op : BitVec 2) : (pack16 f3 mid op).extractLsb' 2 11 = mid := by
  have := op.isLt; have := mid.isLt
  apply BitVec.eq_of_toNat_eq; rw [toNat_extract, toNat_pack16]; omega

/-- A 16-bit word is its three fields. -/
theorem pack16_fields (x : BitVec 16) : pack16 (x.extractLsb' 13 3) (x.extractLsb' 2 11) (x.extractLsb' 0 2) = x := by
  have := x.isLt
  apply BitVec.eq_of_toNat_eq
  simp only [toNat_pack16, toNat_extract]
  omega

/-- off of C.J and C.JAL where bits 12:2 hold its pieces. -/
theorem immCJ_of_mid (x : BitVec 16) (off : BitVec 11)
    (h : x.extractLsb' 2 11 = gather 11 off [(10, 1), (3, 1), (7, 2), (9, 1), (5, 1), (6, 1), (0, 3), (4, 1)]) :
    immCJ x = off := by
  apply BitVec.eq_of_getLsbD_eq
  intro i hi
  have e := fun j => congrArg (fun b => b.getLsbD j) h
  simp only [immCJ, gather, gatherFrom, BitVec.getLsbD_ofNat, testBit_snoc, BitVec.getLsbD_extractLsb',
    Nat.testBit_div_two_pow, BitVec.testBit_toNat] at *
  have a0 := e 0; have a1 := e 1; have a2 := e 2; have a3 := e 3; have a4 := e 4; have a5 := e 5
  have a6 := e 6; have a7 := e 7; have a8 := e 8; have a9 := e 9; have a10 := e 10
  clear e h
  simp at *
  interval_cases i <;> simp [*]

/-- off of C.J and C.JAL read back. -/
@[simp] theorem immCJ_encCJ (f3 : BitVec 3) (off : BitVec 11) : immCJ (encCJ f3 off) = off :=
  immCJ_of_mid _ _ (pack16_mid ..)

end Sys2Proof
end

