-- ==== Sys2Proof/Laws/PerInstr.lean ====
section
/-! SUPPORT. Statements made for every instruction, one lemma per constructor. -/

/-- The encoding has the length of the instruction: two bytes or four (R140). -/
def Sys2Proof.Laws.Length.Statement (i : Sys2Proof.Instr) : Prop := (Sys2Proof.encode i).length = i.len

namespace Sys2Proof.Laws.Length

theorem lui (rd : Reg) (imm : BitVec 20) : Statement (.lui rd imm) := rfl
theorem auipc (rd : Reg) (imm : BitVec 20) : Statement (.auipc rd imm) := rfl
theorem jal (rd : Reg) (off : BitVec 20) : Statement (.jal rd off) := rfl
theorem jalr (rd rs1 : Reg) (imm : BitVec 12) : Statement (.jalr rd rs1 imm) := rfl
theorem beq (rs1 rs2 : Reg) (off : BitVec 12) : Statement (.beq rs1 rs2 off) := rfl
theorem bne (rs1 rs2 : Reg) (off : BitVec 12) : Statement (.bne rs1 rs2 off) := rfl
theorem blt (rs1 rs2 : Reg) (off : BitVec 12) : Statement (.blt rs1 rs2 off) := rfl
theorem bge (rs1 rs2 : Reg) (off : BitVec 12) : Statement (.bge rs1 rs2 off) := rfl
theorem bltu (rs1 rs2 : Reg) (off : BitVec 12) : Statement (.bltu rs1 rs2 off) := rfl
theorem bgeu (rs1 rs2 : Reg) (off : BitVec 12) : Statement (.bgeu rs1 rs2 off) := rfl
theorem lb (rd rs1 : Reg) (imm : BitVec 12) : Statement (.lb rd rs1 imm) := rfl
theorem lh (rd rs1 : Reg) (imm : BitVec 12) : Statement (.lh rd rs1 imm) := rfl
theorem lw (rd rs1 : Reg) (imm : BitVec 12) : Statement (.lw rd rs1 imm) := rfl
theorem lbu (rd rs1 : Reg) (imm : BitVec 12) : Statement (.lbu rd rs1 imm) := rfl
theorem lhu (rd rs1 : Reg) (imm : BitVec 12) : Statement (.lhu rd rs1 imm) := rfl
theorem sb (rs1 rs2 : Reg) (imm : BitVec 12) : Statement (.sb rs1 rs2 imm) := rfl
theorem sh (rs1 rs2 : Reg) (imm : BitVec 12) : Statement (.sh rs1 rs2 imm) := rfl
theorem sw (rs1 rs2 : Reg) (imm : BitVec 12) : Statement (.sw rs1 rs2 imm) := rfl
theorem addi (rd rs1 : Reg) (imm : BitVec 12) : Statement (.addi rd rs1 imm) := rfl
theorem slti (rd rs1 : Reg) (imm : BitVec 12) : Statement (.slti rd rs1 imm) := rfl
theorem sltiu (rd rs1 : Reg) (imm : BitVec 12) : Statement (.sltiu rd rs1 imm) := rfl
theorem xori (rd rs1 : Reg) (imm : BitVec 12) : Statement (.xori rd rs1 imm) := rfl
theorem ori (rd rs1 : Reg) (imm : BitVec 12) : Statement (.ori rd rs1 imm) := rfl
theorem andi (rd rs1 : Reg) (imm : BitVec 12) : Statement (.andi rd rs1 imm) := rfl
theorem slli (rd rs1 : Reg) (shamt : BitVec 5) : Statement (.slli rd rs1 shamt) := rfl
theorem srli (rd rs1 : Reg) (shamt : BitVec 5) : Statement (.srli rd rs1 shamt) := rfl
theorem srai (rd rs1 : Reg) (shamt : BitVec 5) : Statement (.srai rd rs1 shamt) := rfl
theorem add (rd rs1 rs2 : Reg) : Statement (.add rd rs1 rs2) := rfl
theorem sub (rd rs1 rs2 : Reg) : Statement (.sub rd rs1 rs2) := rfl
theorem sll (rd rs1 rs2 : Reg) : Statement (.sll rd rs1 rs2) := rfl
theorem slt (rd rs1 rs2 : Reg) : Statement (.slt rd rs1 rs2) := rfl
theorem sltu (rd rs1 rs2 : Reg) : Statement (.sltu rd rs1 rs2) := rfl
theorem xor (rd rs1 rs2 : Reg) : Statement (.xor rd rs1 rs2) := rfl
theorem srl (rd rs1 rs2 : Reg) : Statement (.srl rd rs1 rs2) := rfl
theorem sra (rd rs1 rs2 : Reg) : Statement (.sra rd rs1 rs2) := rfl
theorem or (rd rs1 rs2 : Reg) : Statement (.or rd rs1 rs2) := rfl
theorem and (rd rs1 rs2 : Reg) : Statement (.and rd rs1 rs2) := rfl
theorem fence (pred succ : BitVec 4) : Statement (.fence pred succ) := rfl
theorem fenceI : Statement .fenceI := rfl
theorem ecall : Statement .ecall := rfl
theorem ebreak : Statement .ebreak := rfl
theorem mret : Statement .mret := rfl
theorem wfi : Statement .wfi := rfl
theorem csrrw (rd rs1 : Reg) (csr : BitVec 12) : Statement (.csrrw rd rs1 csr) := rfl
theorem csrrs (rd rs1 : Reg) (csr : BitVec 12) : Statement (.csrrs rd rs1 csr) := rfl
theorem csrrc (rd rs1 : Reg) (csr : BitVec 12) : Statement (.csrrc rd rs1 csr) := rfl
theorem csrrwi (rd zimm : BitVec 5) (csr : BitVec 12) : Statement (.csrrwi rd zimm csr) := rfl
theorem csrrsi (rd zimm : BitVec 5) (csr : BitVec 12) : Statement (.csrrsi rd zimm csr) := rfl
theorem csrrci (rd zimm : BitVec 5) (csr : BitVec 12) : Statement (.csrrci rd zimm csr) := rfl
theorem mul (rd rs1 rs2 : Reg) : Statement (.mul rd rs1 rs2) := rfl
theorem mulh (rd rs1 rs2 : Reg) : Statement (.mulh rd rs1 rs2) := rfl
theorem mulhsu (rd rs1 rs2 : Reg) : Statement (.mulhsu rd rs1 rs2) := rfl
theorem mulhu (rd rs1 rs2 : Reg) : Statement (.mulhu rd rs1 rs2) := rfl
theorem div (rd rs1 rs2 : Reg) : Statement (.div rd rs1 rs2) := rfl
theorem divu (rd rs1 rs2 : Reg) : Statement (.divu rd rs1 rs2) := rfl
theorem rem (rd rs1 rs2 : Reg) : Statement (.rem rd rs1 rs2) := rfl
theorem remu (rd rs1 rs2 : Reg) : Statement (.remu rd rs1 rs2) := rfl
theorem cIllegal : Statement .cIllegal := rfl
theorem cAddi4spn (rd : RegC) (imm : BitVec 8) : Statement (.cAddi4spn rd imm) := rfl
theorem cLw (rd rs1 : RegC) (imm : BitVec 5) : Statement (.cLw rd rs1 imm) := rfl
theorem cSw (rs1 rs2 : RegC) (imm : BitVec 5) : Statement (.cSw rs1 rs2 imm) := rfl
theorem cNop : Statement .cNop := rfl
theorem cAddi (rd : Reg) (imm : BitVec 6) : Statement (.cAddi rd imm) := rfl
theorem cJal (off : BitVec 11) : Statement (.cJal off) := rfl
theorem cLi (rd : Reg) (imm : BitVec 6) : Statement (.cLi rd imm) := rfl
theorem cAddi16sp (imm : BitVec 6) : Statement (.cAddi16sp imm) := rfl
theorem cLui (rd : Reg) (imm : BitVec 6) : Statement (.cLui rd imm) := rfl
theorem cSrli (rd : RegC) (shamt : BitVec 5) : Statement (.cSrli rd shamt) := rfl
theorem cSrai (rd : RegC) (shamt : BitVec 5) : Statement (.cSrai rd shamt) := rfl
theorem cAndi (rd : RegC) (imm : BitVec 6) : Statement (.cAndi rd imm) := rfl
theorem cSub (rd rs2 : RegC) : Statement (.cSub rd rs2) := rfl
theorem cXor (rd rs2 : RegC) : Statement (.cXor rd rs2) := rfl
theorem cOr (rd rs2 : RegC) : Statement (.cOr rd rs2) := rfl
theorem cAnd (rd rs2 : RegC) : Statement (.cAnd rd rs2) := rfl
theorem cJ (off : BitVec 11) : Statement (.cJ off) := rfl
theorem cBeqz (rs1 : RegC) (off : BitVec 8) : Statement (.cBeqz rs1 off) := rfl
theorem cBnez (rs1 : RegC) (off : BitVec 8) : Statement (.cBnez rs1 off) := rfl
theorem cSlli (rd : Reg) (shamt : BitVec 5) : Statement (.cSlli rd shamt) := rfl
theorem cLwsp (rd : Reg) (imm : BitVec 6) : Statement (.cLwsp rd imm) := rfl
theorem cJr (rs1 : Reg) : Statement (.cJr rs1) := rfl
theorem cMv (rd rs2 : Reg) : Statement (.cMv rd rs2) := rfl
theorem cEbreak : Statement .cEbreak := rfl
theorem cJalr (rs1 : Reg) : Statement (.cJalr rs1) := rfl
theorem cAdd (rd rs2 : Reg) : Statement (.cAdd rd rs2) := rfl
theorem cSwsp (rs2 : Reg) (imm : BitVec 6) : Statement (.cSwsp rs2 imm) := rfl

end Sys2Proof.Laws.Length
end

