-- ==== Sys2Proof/Tests/Slice0.lean ====
section
/-! SUPPORT. Tests: ill-formed terms refused, words of spec/30, 40 to 45 and 95 decoded, one step of every instruction
with the result that spec/95_test_vectors.md or the example of its rule gives, and, for every statement of
Obligations.lean with hypotheses, a state and operands that meet them. -/

open Sys2Proof Sys2Proof.Machine

namespace Sys2Proof.Tests

/-! ## Helpers -/

/-- The reset state with some registers set. -/
def withRegs (l : List (Nat × Nat)) : State :=
  l.foldl (fun s p => s.setReg (BitVec.ofNat 5 p.1) (BitVec.ofNat 32 p.2)) State.reset

/-- Bytes placed in memory. -/
def withBytes (s : State) (a : Nat) (l : List Nat) : State :=
  { s with mem := l.zipIdx.foldl (fun m p => m.writeByte (a + p.2) (BitVec.ofNat 8 p.1)) s.mem }

/-- A word of `s` after the step that runs the instruction `w`. -/
def after (s : State) (w : Nat) (f : State → Word) : Option Word :=
  match step (s.withFetchWord 32 w) with
  | .next t => some (f t)
  | _ => none

def x (r : Nat) (s : State) : Word := s.getReg (BitVec.ofNat 5 r)
def byte (a : Nat) (s : State) : Word := (s.byteAt (BitVec.ofNat 32 a)).setWidth 32

/-- The outcome is a next state. -/
def goesOn : Result → Bool
  | .next _ => true
  | _ => false

/-- The TCM of section B3 of spec/95. -/
def tcm (l : List (Nat × Nat)) : State := withBytes (withRegs l) 0x00480000 [0x80, 0xFF, 0x7F, 0x01, 0xEF, 0xBE, 0xAD, 0xDE]

/-- The configuration without the C extension, with and without the M extension, with the E base. -/
def noC : Config := { Config.rv32imcMax with rvc := false, mepcBit1Rw := false }
def noM : Config := { Config.rv32imcMax with rvm := false }
def baseE : Config := { Config.rv32imcMax with rve := true }

/-- The same state with another configuration. -/
def onCfg (c : Config) (s : State) : State := { s with cfg := c }

/-- A hart halted in Debug Mode with the Debug Module active. -/
def halted : State := { State.reset with debugMode := true, dm := { Dm.reset with dmactive := true } }

/-- A hart that waits on the bus for the abstract command that it executes. -/
def hung : State := halted.hangCommand

/-- Loads and byte stores in the upper half of the space are answered with an error; accesses below it are never. -/
def errsHangs : Config := { Config.rv32imcMax with
  dmemErr := [⟨0x80000000, 0x80000000, true, false, true, true, true⟩, ⟨0x80000000, 0x80000000, false, true, true, false, false⟩]
  dmemHang := [⟨0x70000000, 0x10000000, true, true, true, true, true⟩] }

/-! ## WellFormed: one ill-formed term for each check -/

theorem test_wf_needs_m : (Instr.mul 1 2 3).wellFormed noM = false := by decide
theorem test_wf_needs_c : Instr.cNop.wellFormed noC = false := by decide
theorem test_wf_e_registers : (Instr.add 1 2 16).wellFormed baseE = false := by decide
theorem test_wf_cAddi4spn_zero : (Instr.cAddi4spn 1 0).wellFormed Config.rv32imcMax = false := by decide
theorem test_wf_cAddi_is_nop : (Instr.cAddi 0 0).wellFormed Config.rv32imcMax = false := by decide
theorem test_wf_cAddi16sp_zero : (Instr.cAddi16sp 0).wellFormed Config.rv32imcMax = false := by decide
theorem test_wf_cLui_zero : (Instr.cLui 1 0).wellFormed Config.rv32imcMax = false := by decide
theorem test_wf_cLui_sp : (Instr.cLui 2 1).wellFormed Config.rv32imcMax = false := by decide
theorem test_wf_cLwsp_x0 : (Instr.cLwsp 0 1).wellFormed Config.rv32imcMax = false := by decide
theorem test_wf_cJr_x0 : (Instr.cJr 0).wellFormed Config.rv32imcMax = false := by decide
theorem test_wf_cJalr_x0 : (Instr.cJalr 0).wellFormed Config.rv32imcMax = false := by decide
theorem test_wf_cMv_x0 : (Instr.cMv 1 0).wellFormed Config.rv32imcMax = false := by decide
theorem test_wf_cAdd_x0 : (Instr.cAdd 1 0).wellFormed Config.rv32imcMax = false := by decide

/-! ## Decoding: words written out from the encodings of spec/30 (R148, R152), every constructor once -/

theorem test_decode_upper_and_jumps :
    decodeTableWord 32 0xFFFFF2B7 = some (.lui 5 0xFFFFF) ∧
    decodeTableWord 32 0x00001297 = some (.auipc 5 1) ∧
    decodeTableWord 32 0x7FFFF0EF = some (.jal 1 0x7FFFF) ∧
    decodeTableWord 32 0xFFDFF06F = some (.jal 0 0xFFFFE) ∧
    decodeTableWord 32 0xFFF280E7 = some (.jalr 1 5 0xFFF) := by decide

theorem test_decode_branches :
    decodeTableWord 32 0x7E000FE3 = some (.beq 0 0 0x7FF) ∧
    decodeTableWord 32 0x80000063 = some (.beq 0 0 0x800) ∧
    decodeTableWord 32 0xFE629CE3 = some (.bne 5 6 0xFFC) ∧
    decodeTableWord 32 0x0062C863 = some (.blt 5 6 8) ∧
    decodeTableWord 32 0x0062D863 = some (.bge 5 6 8) ∧
    decodeTableWord 32 0x0062E863 = some (.bltu 5 6 8) ∧
    decodeTableWord 32 0x0062F863 = some (.bgeu 5 6 8) := by decide

theorem test_decode_loads_and_stores :
    decodeTableWord 32 0x00228303 = some (.lb 6 5 2) ∧
    decodeTableWord 32 0x00229303 = some (.lh 6 5 2) ∧
    decodeTableWord 32 0xFFC2A303 = some (.lw 6 5 0xFFC) ∧
    decodeTableWord 32 0x0032C303 = some (.lbu 6 5 3) ∧
    decodeTableWord 32 0x0032D303 = some (.lhu 6 5 3) ∧
    decodeTableWord 32 0x006280A3 = some (.sb 5 6 1) ∧
    decodeTableWord 32 0x00629123 = some (.sh 5 6 2) ∧
    decodeTableWord 32 0xFE62AFA3 = some (.sw 5 6 0xFFF) := by decide

theorem test_decode_immediate_arithmetic :
    decodeTableWord 32 0x80030293 = some (.addi 5 6 0x800) ∧
    decodeTableWord 32 0xFFF2A313 = some (.slti 6 5 0xFFF) ∧
    decodeTableWord 32 0xFFF2B313 = some (.sltiu 6 5 0xFFF) ∧
    decodeTableWord 32 0xFFF2C313 = some (.xori 6 5 0xFFF) ∧
    decodeTableWord 32 0x7FF2E313 = some (.ori 6 5 0x7FF) ∧
    decodeTableWord 32 0xF002F313 = some (.andi 6 5 0xF00) ∧
    decodeTableWord 32 0x01F29313 = some (.slli 6 5 31) ∧
    decodeTableWord 32 0x01F2D313 = some (.srli 6 5 31) ∧
    decodeTableWord 32 0x41F2D313 = some (.srai 6 5 31) := by decide

theorem test_decode_register_arithmetic :
    decodeTableWord 32 0x006283B3 = some (.add 7 5 6) ∧
    decodeTableWord 32 0x406283B3 = some (.sub 7 5 6) ∧
    decodeTableWord 32 0x006293B3 = some (.sll 7 5 6) ∧
    decodeTableWord 32 0x0062A3B3 = some (.slt 7 5 6) ∧
    decodeTableWord 32 0x0062B3B3 = some (.sltu 7 5 6) ∧
    decodeTableWord 32 0x0062C3B3 = some (.xor 7 5 6) ∧
    decodeTableWord 32 0x0062D3B3 = some (.srl 7 5 6) ∧
    decodeTableWord 32 0x4062D3B3 = some (.sra 7 5 6) ∧
    decodeTableWord 32 0x0062E3B3 = some (.or 7 5 6) ∧
    decodeTableWord 32 0x0062F3B3 = some (.and 7 5 6) := by decide

theorem test_decode_system_and_csr :
    decodeTableWord 32 0x0210000F = some (.fence 2 1) ∧
    decodeTableWord 32 0x0000100F = some (.fenceI) ∧
    decodeTableWord 32 0x00000073 = some (.ecall) ∧
    decodeTableWord 32 0x00100073 = some (.ebreak) ∧
    decodeTableWord 32 0x30200073 = some (.mret) ∧
    decodeTableWord 32 0x10500073 = some (.wfi) ∧
    decodeTableWord 32 0x340312F3 = some (.csrrw 5 6 0x340) ∧
    decodeTableWord 32 0x3043A073 = some (.csrrs 0 7 0x304) ∧
    decodeTableWord 32 0x30433073 = some (.csrrc 0 6 0x304) ∧
    decodeTableWord 32 0x300FD073 = some (.csrrwi 0 31 0x300) ∧
    decodeTableWord 32 0x30046073 = some (.csrrsi 0 8 0x300) ∧
    decodeTableWord 32 0x300472F3 = some (.csrrci 5 8 0x300) := by decide

theorem test_decode_multiply_divide :
    decodeTableWord 32 0x026283B3 = some (.mul 7 5 6) ∧
    decodeTableWord 32 0x026293B3 = some (.mulh 7 5 6) ∧
    decodeTableWord 32 0x0262A3B3 = some (.mulhsu 7 5 6) ∧
    decodeTableWord 32 0x0262B3B3 = some (.mulhu 7 5 6) ∧
    decodeTableWord 32 0x0262C3B3 = some (.div 7 5 6) ∧
    decodeTableWord 32 0x0262D3B3 = some (.divu 7 5 6) ∧
    decodeTableWord 32 0x0262E3B3 = some (.rem 7 5 6) ∧
    decodeTableWord 32 0x0262F3B3 = some (.remu 7 5 6) := by decide

theorem test_decode_compressed_quadrant0 :
    decodeTableWord 16 0x0000 = some (.cIllegal) ∧
    decodeTableWord 16 0x0800 = some (.cAddi4spn 0 4) ∧
    decodeTableWord 16 0x1FFC = some (.cAddi4spn 7 255) ∧
    decodeTableWord 16 0x41C8 = some (.cLw 2 3 1) ∧
    decodeTableWord 16 0xDDE8 = some (.cSw 3 2 31) := by decide

theorem test_decode_compressed_quadrant1 :
    decodeTableWord 16 0x0001 = some (.cNop) ∧
    decodeTableWord 16 0x157D = some (.cAddi 10 0x3F) ∧
    decodeTableWord 16 0x2FFD = some (.cJal 1023) ∧
    decodeTableWord 16 0x3001 = some (.cJal 0x400) ∧
    decodeTableWord 16 0x5501 = some (.cLi 10 0x20) ∧
    decodeTableWord 16 0x617D = some (.cAddi16sp 31) ∧
    decodeTableWord 16 0x7101 = some (.cAddi16sp 0x20) ∧
    decodeTableWord 16 0x657D = some (.cLui 10 0x1F) ∧
    decodeTableWord 16 0x817D = some (.cSrli 2 31) ∧
    decodeTableWord 16 0x8511 = some (.cSrai 2 4) ∧
    decodeTableWord 16 0x9941 = some (.cAndi 2 0x30) ∧
    decodeTableWord 16 0x8D0D = some (.cSub 2 3) ∧
    decodeTableWord 16 0x8D2D = some (.cXor 2 3) ∧
    decodeTableWord 16 0x8D4D = some (.cOr 2 3) ∧
    decodeTableWord 16 0x8D6D = some (.cAnd 2 3) ∧
    decodeTableWord 16 0xBFF5 = some (.cJ 0x7FE) ∧
    decodeTableWord 16 0xCD7D = some (.cBeqz 2 127) ∧
    decodeTableWord 16 0xFD6D = some (.cBnez 2 0xFD) := by decide

theorem test_decode_compressed_quadrant2 :
    decodeTableWord 16 0x057E = some (.cSlli 10 31) ∧
    decodeTableWord 16 0x557E = some (.cLwsp 10 63) ∧
    decodeTableWord 16 0x8082 = some (.cJr 1) ∧
    decodeTableWord 16 0x852E = some (.cMv 10 11) ∧
    decodeTableWord 16 0x9002 = some (.cEbreak) ∧
    decodeTableWord 16 0x9502 = some (.cJalr 10) ∧
    decodeTableWord 16 0x952E = some (.cAdd 10 11) ∧
    decodeTableWord 16 0xC606 = some (.cSwsp 1 3) := by decide

/-- Words the rows of sections B1 to B6 of spec/95 call illegal: wrong funct7, funct3 or fixed field, reserved operands. -/
theorem test_decode_illegal :
    ∀ w ∈ [0x02029313, 0x4202D313, 0x406293B3, 0x000290E7, 0x00002463, 0x0002B303, 0x0002E303, 0x0062B023, 0x8330000F,
      0x0FF0008F, 0x0010100F, 0x340042F3, 0x000000F3, 0x10200073, 0x00200073, 0x12000073, 0x10508073, 0xFFFFFFFF],
      decodeTableWord 32 w = none := by decide
theorem test_decode_illegal_compressed :
    ∀ w ∈ [0x0004, 0x2000, 0x6000, 0x8000, 0xE000, 0x6101, 0x6501, 0x9111, 0x9511, 0x9D0D, 0x1512, 0x4032, 0x8002, 0x2002,
      0x6002, 0xA002, 0xE002], decodeTableWord 16 w = none := by decide

/-! ## One step of every instruction (spec/95 B1 to B6, and the examples of the rules) -/

theorem test_lui : after (State.reset) 0xFFFFF2B7 (x 5) = some 0xFFFFF000 := by decide
theorem test_auipc : after (State.reset) 0xFFFFF297 (x 5) = some 0xFFFFF200 := by decide
theorem test_jal : after (State.reset) 0x7FFFF0EF (·.pc) = some 0x001001FE := by decide
theorem test_jal_link : after (State.reset) 0x008000EF (x 1) = some 0x204 := by decide
theorem test_jalr : after (withRegs [(1, 0x301)]) 0x000080E7 (·.pc) = some 0x300 := by decide
theorem test_jalr_link : after (withRegs [(1, 0x301)]) 0x000080E7 (x 1) = some 0x204 := by decide
theorem test_beq : after (withRegs [(5, 7), (6, 7)]) 0x00628863 (·.pc) = some 0x210 := by decide
theorem test_beq_not_taken : after (withRegs [(5, 7), (6, 8)]) 0x00628863 (·.pc) = some 0x204 := by decide
theorem test_bne : after (withRegs [(5, 7), (6, 8)]) 0xFE629CE3 (·.pc) = some 0x1F8 := by decide
theorem test_blt : after (withRegs [(5, 0xFFFFFFFF), (6, 1)]) 0x0062C863 (·.pc) = some 0x210 := by decide
theorem test_bge : after (withRegs [(5, 5), (6, 5)]) 0x0062D863 (·.pc) = some 0x210 := by decide
theorem test_bge_not_taken : after (withRegs [(5, 0x80000000), (6, 0x7FFFFFFF)]) 0x0062D863 (·.pc) = some 0x204 := by decide
theorem test_bltu_not_taken : after (withRegs [(5, 0xFFFFFFFF), (6, 1)]) 0x0062E863 (·.pc) = some 0x204 := by decide
theorem test_bgeu : after (withRegs [(5, 0x80000000), (6, 0x7FFFFFFF)]) 0x0062F863 (·.pc) = some 0x210 := by decide
theorem test_lb : after (tcm [(5, 0x00480000)]) 0x00028303 (x 6) = some 0xFFFFFF80 := by decide
theorem test_lh : after (tcm [(5, 0x00480000)]) 0x00029303 (x 6) = some 0xFFFFFF80 := by decide
theorem test_lw : after (tcm [(5, 0x00480000)]) 0x0002A303 (x 6) = some 0x017FFF80 := by decide
theorem test_lw_misaligned : after (tcm [(5, 0x00480000)]) 0x0022A303 (·.csr.mtval) = some 0x00480002 := by decide
theorem test_lw_timer : after (withRegs [(5, 0x00490000)]) 0x0002A303 (x 6) = some 1 := by decide
theorem test_lbu : after (tcm [(5, 0x00480000)]) 0x0002C303 (x 6) = some 0x80 := by decide
theorem test_lhu : after (tcm [(5, 0x00480000)]) 0x0002D303 (x 6) = some 0xFF80 := by decide
theorem test_lhu_timer : after (withRegs [(5, 0x00490000)]) 0x0082D303 (·.csr.mcause) = some 5 := by decide
theorem test_sb : after (tcm [(5, 0x00480000), (6, 0x123456AB)]) 0x006280A3 (byte 0x00480001) = some 0xAB := by decide
theorem test_sh : after (tcm [(5, 0x00480000), (6, 0x123456AB)]) 0x00629123 (byte 0x00480003) = some 0x56 := by decide
theorem test_sw : after (tcm [(5, 0x00480000), (6, 0x123456AB)]) 0x0062A223 (byte 0x00480007) = some 0x12 := by decide
theorem test_sw_timer : after (withRegs [(5, 0x00490000), (6, 0xFFFFFFFF)]) 0x0062A223 (·.timer.div) = some 0x3FF := by decide
theorem test_addi : after (withRegs [(5, 0x7FFFFFFF)]) 0x00128293 (x 5) = some 0x80000000 := by decide
theorem test_addi_x0 : after (withRegs [(5, 7)]) 0x00128013 (x 0) = some 0 := by decide
theorem test_slti : after (withRegs [(5, 0x80000000)]) 0xFFF2A313 (x 6) = some 1 := by decide
theorem test_sltiu : after (withRegs [(5, 0xFFFFFFFE)]) 0xFFF2B313 (x 6) = some 1 := by decide
theorem test_xori : after (withRegs [(5, 0x0F0F1234)]) 0xFFF2C313 (x 6) = some 0xF0F0EDCB := by decide
theorem test_ori : after (withRegs [(5, 0x80000000)]) 0x7FF2E313 (x 6) = some 0x800007FF := by decide
theorem test_andi : after (withRegs [(5, 0x12345678)]) 0xF002F313 (x 6) = some 0x12345600 := by decide
theorem test_slli : after (withRegs [(5, 3)]) 0x01F29313 (x 6) = some 0x80000000 := by decide
theorem test_srli : after (withRegs [(5, 0x80000000)]) 0x01F2D313 (x 6) = some 1 := by decide
theorem test_srai : after (withRegs [(5, 0x80000000)]) 0x41F2D313 (x 6) = some 0xFFFFFFFF := by decide
theorem test_add : after (withRegs [(5, 0x7FFFFFFF), (6, 1)]) 0x006283B3 (x 7) = some 0x80000000 := by decide
theorem test_sub : after (withRegs [(5, 0x80000000), (6, 1)]) 0x406283B3 (x 7) = some 0x7FFFFFFF := by decide
theorem test_sll : after (withRegs [(5, 1), (6, 0x20)]) 0x006293B3 (x 7) = some 1 := by decide
theorem test_slt : after (withRegs [(5, 0xFFFFFFFF), (6, 1)]) 0x0062A3B3 (x 7) = some 1 := by decide
theorem test_sltu : after (withRegs [(5, 0), (6, 5)]) 0x006033B3 (x 7) = some 1 := by decide
theorem test_xor : after (withRegs [(5, 0x0F0F0F0F), (6, 0x00FF00FF)]) 0x0062C3B3 (x 7) = some 0x0FF00FF0 := by decide
theorem test_srl : after (withRegs [(5, 0x80000000), (6, 0x21)]) 0x0062D3B3 (x 7) = some 0x40000000 := by decide
theorem test_sra : after (withRegs [(5, 0x80000000), (6, 0x3F)]) 0x4062D3B3 (x 7) = some 0xFFFFFFFF := by decide
theorem test_or : after (withRegs [(5, 0x0F0F0F0F), (6, 0x00FF00FF)]) 0x0062E3B3 (x 7) = some 0x0FFF0FFF := by decide
theorem test_and : after (withRegs [(5, 0x0F0F0F0F), (6, 0x00FF00FF)]) 0x0062F3B3 (x 7) = some 0x000F000F := by decide
theorem test_fence : after (State.reset) 0x0FF0000F (·.pc) = some 0x204 := by decide
theorem test_fenceI : after (State.reset) 0x0000100F (·.pc) = some 0x204 := by decide
theorem test_ecall : after (State.reset) 0x00000073 (·.csr.mcause) = some 11 := by decide
theorem test_ecall_status : after (State.reset) 0x00000073 (·.csr.mstatus) = some 0x1800 := by decide
theorem test_ebreak : after (State.reset) 0x00100073 (·.csr.mcause) = some 3 := by decide
theorem test_mret : after ({ State.reset with csr := { State.reset.csr with mepc := 0x208 } }) 0x30200073 (·.pc) = some 0x208 := by decide
theorem test_mret_status : after ({ State.reset with csr := { State.reset.csr with mepc := 0x208 } }) 0x30200073 (·.csr.mstatus) = some 0x1888 := by decide
theorem test_wfi :
    (match step (State.reset.withFetchWord 32 0x10500073) with | .next t => some t.sleeping | _ => none) = some true := by decide
theorem test_csrrw : after (withRegs [(6, 0xFFFFFFFD)]) 0x30531073 (·.csr.mtvec) = some 0xFFFFFFC1 := by decide
theorem test_csrrs : after (State.reset) 0x300022F3 (x 5) = some 0x1880 := by decide
theorem test_csrrs_readonly : after (State.reset) 0xF14322F3 (·.csr.mtval) = some 0xF14322F3 := by decide
theorem test_csrrc : after ({ withRegs [(6, 0x80)] with csr := { State.reset.csr with mie := 0x888 } }) 0x30433073 (·.csr.mie) = some 0x808 := by decide
theorem test_csrrwi : after (State.reset) 0x300FD073 (·.csr.mstatus) = some 0x1808 := by decide
theorem test_csrrsi : after (State.reset) 0x30046073 (·.csr.mstatus) = some 0x1888 := by decide
theorem test_csrrci : after ({ State.reset with csr := { State.reset.csr with mstatus := 0x1888 } }) 0x300472F3 (x 5) = some 0x1888 := by decide
theorem test_mul : after (withRegs [(5, 7), (6, 0xFFFFFFFD)]) 0x026283B3 (x 7) = some 0xFFFFFFEB := by decide
theorem test_mulh : after (withRegs [(5, 0x80000000), (6, 0x80000000)]) 0x026293B3 (x 7) = some 0x40000000 := by decide
theorem test_mulhsu : after (withRegs [(5, 0x80000000), (6, 0x80000000)]) 0x0262A3B3 (x 7) = some 0xC0000000 := by decide
theorem test_mulhu : after (withRegs [(5, 0xFFFFFFFF), (6, 0xFFFFFFFF)]) 0x0262B3B3 (x 7) = some 0xFFFFFFFE := by decide
theorem test_div : after (withRegs [(5, 0xFFFFFFF9), (6, 2)]) 0x0262C3B3 (x 7) = some 0xFFFFFFFD := by decide
theorem test_div_overflow : after (withRegs [(5, 0x80000000), (6, 0xFFFFFFFF)]) 0x0262C3B3 (x 7) = some 0x80000000 := by decide
theorem test_divu : after (withRegs [(5, 0x12345678), (6, 0)]) 0x0262D3B3 (x 7) = some 0xFFFFFFFF := by decide
theorem test_rem : after (withRegs [(5, 0xFFFFFFF9), (6, 2)]) 0x0262E3B3 (x 7) = some 0xFFFFFFFF := by decide
theorem test_remu : after (withRegs [(5, 0x12345678), (6, 0)]) 0x0262F3B3 (x 7) = some 0x12345678 := by decide
theorem test_cIllegal : after (State.reset) 0x0000 (·.csr.mcause) = some 2 := by decide
theorem test_cAddi4spn : after (withRegs [(2, 0x00490000)]) 0x1FFC (x 15) = some 0x004903FC := by decide
theorem test_cLw : after (tcm [(11, 0x00480000)]) 0x41C8 (x 10) = some 0xDEADBEEF := by decide
theorem test_cSw : after (withRegs [(11, 0x00480000), (10, 0x12345678)]) 0xC1C8 (byte 0x00480005) = some 0x56 := by decide
theorem test_cNop : after (State.reset) 0x0001 (·.pc) = some 0x202 := by decide
theorem test_cAddi : after (withRegs [(10, 0x7FFFFFFF)]) 0x057D (x 10) = some 0x8000001E := by decide
theorem test_cJal : after (State.reset) 0x2FFD (·.pc) = some 0x9FE := by decide
theorem test_cJal_link : after (State.reset) 0x2FFD (x 1) = some 0x202 := by decide
theorem test_cLi : after (State.reset) 0x5501 (x 10) = some 0xFFFFFFE0 := by decide
theorem test_cAddi16sp : after (withRegs [(2, 0x00490000)]) 0x7139 (x 2) = some 0x0048FFC0 := by decide
theorem test_cLui : after (State.reset) 0x757D (x 10) = some 0xFFFFF000 := by decide
theorem test_cSrli : after (withRegs [(10, 0x80000010)]) 0x8111 (x 10) = some 0x08000001 := by decide
theorem test_cSrai : after (withRegs [(10, 0x80000010)]) 0x8511 (x 10) = some 0xF8000001 := by decide
theorem test_cAndi : after (withRegs [(10, 0x12345678)]) 0x9941 (x 10) = some 0x12345670 := by decide
theorem test_cSub : after (withRegs [(10, 5), (11, 7)]) 0x8D0D (x 10) = some 0xFFFFFFFE := by decide
theorem test_cXor : after (withRegs [(10, 0x0F0F0F0F), (11, 0x00FF00FF)]) 0x8D2D (x 10) = some 0x0FF00FF0 := by decide
theorem test_cOr : after (withRegs [(10, 0x0F0F0F0F), (11, 0x00FF00FF)]) 0x8D4D (x 10) = some 0x0FFF0FFF := by decide
theorem test_cAnd : after (withRegs [(10, 0x0F0F0F0F), (11, 0x00FF00FF)]) 0x8D6D (x 10) = some 0x000F000F := by decide
theorem test_cJ : after (State.reset) 0xBFF5 (·.pc) = some 0x1FC := by decide
theorem test_cBeqz : after (State.reset) 0xCD7D (·.pc) = some 0x2FE := by decide
theorem test_cBeqz_not_taken : after (withRegs [(10, 1)]) 0xC501 (·.pc) = some 0x202 := by decide
theorem test_cBnez : after (withRegs [(10, 3)]) 0xFD6D (·.pc) = some 0x1FA := by decide
theorem test_cSlli : after (withRegs [(10, 0xF000000F)]) 0x0512 (x 10) = some 0xF0 := by decide
theorem test_cLwsp : after (withBytes (withRegs [(2, 0x0048FFF0)]) 0x0048FFFC [0x0D, 0xF0, 0xFE, 0xCA]) 0x4532 (x 10) = some 0xCAFEF00D := by decide
theorem test_cJr : after (withRegs [(1, 0x207)]) 0x8082 (·.pc) = some 0x206 := by decide
theorem test_cMv : after (withRegs [(11, 0xCAFEF00D)]) 0x852E (x 10) = some 0xCAFEF00D := by decide
theorem test_cEbreak : after (State.reset) 0x9002 (·.csr.mcause) = some 3 := by decide
theorem test_cJalr : after (withRegs [(10, 0x00480100)]) 0x9502 (·.pc) = some 0x00480100 := by decide
theorem test_cJalr_link : after (withRegs [(1, 0x300)]) 0x9082 (x 1) = some 0x202 := by decide
theorem test_cAdd : after (withRegs [(10, 5), (11, 7)]) 0x952E (x 10) = some 12 := by decide
theorem test_cSwsp : after (withRegs [(2, 0x0048FFF0), (1, 0x204)]) 0xC606 (byte 0x0048FFFD) = some 2 := by decide

/-! ## Witnesses: states and operands that meet the hypotheses of the statements, clause by clause -/

theorem witness_UpperImmediateResult : State.reset.debugMode = false ∧ halted.debugMode = true := by decide

theorem witness_DivideResult : (1 : Reg) ≠ 0 ∧ (31 : Reg) ≠ 0 := by decide

/-- With the C extension every target; without it the farthest JAL back and a JALR whose sum is odd; the Program Buffer. -/
theorem witness_JumpResult :
    State.reset.debugMode = false ∧ State.reset.cfg.rvc = true ∧ halted.debugMode = true ∧
    (let s := onCfg noC (withRegs [(5, 0x302)])
     s.debugMode = false ∧ s.cfg.rvc = false ∧ (s.pc + ((0x80000 : BitVec 20) ++ 0#1).signExtend 32).getLsbD 1 = false ∧
     ((s.getReg 5 + (0xFFF : BitVec 12).signExtend 32) &&& 0xFFFFFFFE).getLsbD 1 = false) := by decide

/-- Each condition holding and failing, at the ends of the signed and unsigned ranges. -/
theorem witness_BranchResult :
    let s := withRegs [(5, 0x80000000), (6, 0x7FFFFFFF), (9, 1)]
    s.debugMode = false ∧ halted.debugMode = true ∧ s.cfg.rvc = true ∧ s.getReg 5 ≠ s.getReg 6 ∧
    (s.getReg 5).toInt < (s.getReg 6).toInt ∧ ¬(s.getReg 6).toInt < (s.getReg 5).toInt ∧
    (s.getReg 6).toNat < (s.getReg 5).toNat ∧ ¬(s.getReg 5).toNat < (s.getReg 6).toNat ∧
    s.getReg (1#2 ++ 0#3) = 0 ∧ s.getReg (1#2 ++ 1#3) ≠ 0 := by decide

theorem witness_MisalignedTargetTraps :
    let s := onCfg noC (withRegs [(5, 0x302), (6, 0x80000000)])
    s.debugMode = false ∧ s.cfg.rvc = false ∧ (s.pc + ((1 : BitVec 20) ++ 0#1).signExtend 32).getLsbD 1 = true ∧
    ((s.getReg 5 + (0 : BitVec 12).signExtend 32) &&& 0xFFFFFFFE).getLsbD 1 = true ∧
    (s.pc + ((0x7FF : BitVec 12) ++ 0#1).signExtend 32).getLsbD 1 = true ∧
    s.getReg 5 ≠ s.getReg 6 ∧ (s.getReg 6).toInt < (s.getReg 5).toInt ∧ (s.getReg 5).toNat < (s.getReg 6).toNat := by decide

/-- Loads and stores: the first and last word of the TCM, the word after the timer, the first and last word and byte of the
space, and a byte store
where the loads answer an error. -/
theorem witness_RamAt :
    (∀ p ∈ [(0x00480000, 4), (0x0048FFFC, 4), (0x0048FFFE, 2), (0x0048FFFF, 1), (0x00490020, 4), (0, 4), (0xFFFFFFFC, 4),
      (0xFFFFFFFF, 1)], ∀ d ∈ [false, true], RamAt State.reset d (BitVec.ofNat 32 p.1) p.2) ∧
    RamAt (onCfg errsHangs State.reset) true 0x80000000 4 ∧ ErrorAt (onCfg errsHangs State.reset) false 0x80000000 1 := by
  unfold RamAt ErrorAt; decide

theorem witness_LoadResult :
    let s := withRegs [(2, 0x0048FFFC), (5, 0x00480800), (8, 0x00480000)]
    RamAt s false (s.getReg 5 + (0x800 : BitVec 12).signExtend 32) 1 ∧ RamAt s false (s.getReg 5 + (0x7FE : BitVec 12).signExtend 32) 2 ∧
    RamAt s false (s.getReg 5 + (0x7FC : BitVec 12).signExtend 32) 4 ∧
    RamAt s false (s.getReg (1#2 ++ 0#3) + ((31 : BitVec 5) ++ 0#2).setWidth 32) 4 ∧
    RamAt s false (s.getReg 2 + ((0 : BitVec 6) ++ 0#2).setWidth 32) 4 := by unfold RamAt; decide

theorem witness_StoreResult :
    let s := tcm [(2, 0x0048FFFC), (5, 0x00480800), (8, 0x00480000)]
    s.mem.wf ∧ RamAt s true (s.getReg 5 + (0xFFF : BitVec 12).signExtend 32) 1 ∧
    RamAt s true (s.getReg 5 + (0x7FE : BitVec 12).signExtend 32) 2 ∧ RamAt s true (s.getReg 5 + (0x800 : BitVec 12).signExtend 32) 4 ∧
    RamAt s true (s.getReg (1#2 ++ 0#3) + ((31 : BitVec 5) ++ 0#2).setWidth 32) 4 ∧
    RamAt s true (s.getReg 2 + ((0 : BitVec 6) ++ 0#2).setWidth 32) 4 := by unfold RamAt; decide

/-- Every register of the block, the first and the last among them, and the two holes. -/
theorem witness_TimerRegisterAccess :
    (∀ k ∈ [0x00490000, 0x00490004, 0x00490008, 0x0049000C, 0x00490010, 0x00490014],
      let a : Word := BitVec.ofNat 32 k
      a.toNat % 4 = 0 ∧ inTimer State.reset.cfg a = true ∧ (State.reset.timer.wordAt (a &&& 0x1C).toNat).isSome = true ∧
      (State.reset.timer.stored (a &&& 0x1C).toNat 0xFFFFFFFF).isSome = true) ∧
    (0x00490018 : Word).toNat % 4 = 0 ∧ inTimer State.reset.cfg 0x00490018 = true ∧ (0x00490018 : Word) &&& 0x1C = 0x18 ∧
    (0x0049001C : Word).toNat % 4 = 0 ∧ inTimer State.reset.cfg 0x0049001C = true ∧ (0x0049001C : Word) &&& 0x1C = 0x1C := by
  decide

/-- The ends of the timer block, of a window that answers loads with an error and byte stores, and of one that never
answers. -/
theorem witness_AccessFaults :
    let s := onCfg errsHangs State.reset
    s.debugMode = false ∧
    (∀ k ∈ [0x00490000, 0x0049001F], let a : Word := BitVec.ofNat 32 k; inTimer s.cfg a = true ∧ a.toNat % 1 = 0) ∧
    (∀ k ∈ [0x00490000, 0x0049001E], let a : Word := BitVec.ofNat 32 k; inTimer s.cfg a = true ∧ a.toNat % 2 = 0) ∧
    (∀ k ∈ [0x80000000, 0xFFFFFFFC], let a : Word := BitVec.ofNat 32 k
      ErrorAt s false a 4 ∧ ErrorAt s false a 2 ∧ ErrorAt s false a 1 ∧ ErrorAt s true a 1) ∧
    (∀ k ∈ [0x70000000, 0x7FFFFFFC], let a : Word := BitVec.ofNat 32 k
      ∀ d ∈ [false, true], HangAt s d a 4 ∧ HangAt s d a 2 ∧ HangAt s d a 1) := by unfold ErrorAt HangAt; decide

/-- C.SW to the last word of the address space of a responder that errs on stores, and C.LWSP there. -/
theorem witness_AccessFaults_compressed :
    let s := onCfg { errsHangs with dmemErr := [⟨0x80000000, 0x80000000, true, true, true, true, true⟩] }
      (withRegs [(2, 0xFFFFFF80), (8, 0xFFFFFF80)])
    ErrorAt s true (s.getReg (1#2 ++ 0#3) + ((31 : BitVec 5) ++ 0#2).setWidth 32) 4 ∧
    ErrorAt s false (s.getReg 2 + ((31 : BitVec 6) ++ 0#2).setWidth 32) 4 := by unfold ErrorAt; decide

theorem witness_MisalignedAccessTraps :
    let s := withRegs [(2, 0x0048FFF2), (5, 0x00480002), (8, 0x00480001)]
    s.debugMode = false ∧ (s.getReg 5 + (0xFFF : BitVec 12).signExtend 32).extractLsb' 0 1 ≠ 0#1 ∧
    (s.getReg 5 + (0 : BitVec 12).signExtend 32).extractLsb' 0 2 ≠ 0#2 ∧
    (s.getReg 5 + (1 : BitVec 12).signExtend 32).extractLsb' 0 2 ≠ 0#2 ∧
    (s.getReg (1#2 ++ 0#3) + ((31 : BitVec 5) ++ 0#2).setWidth 32).extractLsb' 0 2 ≠ 0#2 ∧
    (s.getReg 2 + ((63 : BitVec 6) ++ 0#2).setWidth 32).extractLsb' 0 2 ≠ 0#2 := by decide

/-- The first and the last byte of the word. -/
theorem witness_LoadAfterStoreReturnsValue :
    let s := tcm [(5, 0x0048FFFC), (6, 0x0048FFFF)]
    s.mem.wf ∧ (7 : Reg) ≠ 0 ∧ (∀ d ∈ [true, false], RamAt s d (s.getReg 5 + (0 : BitVec 12).signExtend 32) 4) ∧
    s.getReg 5 = s.getReg 5 + (0 : BitVec 12).signExtend 32 + BitVec.ofNat 32 0 ∧
    RamAt s false (s.getReg 5 + (0 : BitVec 12).signExtend 32 + BitVec.ofNat 32 0) 1 ∧
    s.getReg 6 = s.getReg 5 + (0 : BitVec 12).signExtend 32 + BitVec.ofNat 32 3 ∧
    RamAt s false (s.getReg 5 + (0 : BitVec 12).signExtend 32 + BitVec.ofNat 32 3) 1 := by unfold RamAt; decide

theorem witness_SystemTraps :
    let s := { State.reset with dcsr := 0x40008003 }
    halted.debugMode = true ∧ (s.debugMode = false ∧ s.cfg.dbgEn = true ∧ s.dcsr.getLsbD 15 = true) ∧
    State.reset.dcsr.getLsbD 15 = false ∧ (onCfg { noM with dbgEn := false } s).cfg.dbgEn = false := by decide

theorem witness_MretReturns :
    State.reset.debugMode = false ∧ State.reset.cfg.rvc = true ∧
    (let s := onCfg noC { State.reset with csr := { State.reset.csr with mepc := 0xFFFFFFFC } }
     s.debugMode = false ∧ s.cfg.rvc = false ∧ s.csr.mepc.getLsbD 1 = false) ∧
    (let s := onCfg noC { State.reset with csr := { State.reset.csr with mepc := 0xFFFFFFFE } }
     s.debugMode = false ∧ s.cfg.rvc = false ∧ s.csr.mepc.getLsbD 1 = true) := by decide

/-- An exception, and an interrupt with the highest code. -/
theorem witness_TrapThenMretComesBack :
    State.reset.debugMode = false ∧ pcAligned State.reset.cfg State.reset.pc = true ∧
      Traps State.reset (State.reset.takeTrap false 2 0xFFFFFFFF State.reset.pc) false 2 0xFFFFFFFF ∧
      Traps State.reset (State.reset.takeTrap true 15 0 State.reset.pc) true 15 0 :=
  ⟨rfl, by decide,
    ⟨by decide, by decide, rfl, by decide, by decide, by decide, rfl, by decide, rfl, rfl, fun _ => rfl, ⟨rfl, rfl, rfl, rfl, rfl⟩,
      ⟨rfl, rfl, rfl, rfl, rfl, rfl, rfl, rfl, rfl, rfl, rfl⟩, ⟨fun _ => rfl, rfl⟩⟩,
    ⟨by decide, by decide, rfl, by decide, by decide, by decide, rfl, by decide, rfl, rfl, fun _ => rfl, ⟨rfl, rfl, rfl, rfl, rfl⟩,
      ⟨rfl, rfl, rfl, rfl, rfl, rfl, rfl, rfl, rfl, rfl, rfl⟩, ⟨fun _ => rfl, rfl⟩⟩⟩

theorem witness_WfiSleepsOrRetires :
    halted.debugMode = true ∧ ({ State.reset with dcsr := 0x40000007 } : State).stepping = true ∧
    ({ State.reset with csr := { State.reset.csr with mie := 0x80 } } : State).wakes = true ∧
    State.reset.debugMode = false ∧ State.reset.stepping = false ∧ State.reset.wakes = false := by decide

/-- A halted hart, one that waits on the bus, one asleep, one asleep with an enabled interrupt, and a pin that wakes it. -/
theorem witness_WaitingHartOnlyLetsTimePass :
    let s := { State.reset with sleeping := true }
    let u := { s with csr := { s.csr with mie := 0x80 } }
    let v := { s with csr := { s.csr with mie := 0x8 }, inputs := [.softIrq true] }
    (halted.inputs = [] ∧ halted.debugMode = true) ∧
    (({ State.reset with waiting := true } : State).inputs = [] ∧ ({ State.reset with waiting := true } : State).waiting = true) ∧
    (s.inputs = [] ∧ s.coreReset = false ∧ s.debugMode = false ∧ s.waiting = false ∧ s.seqWrap = false ∧ s.dm.haltreq = false ∧
      s.sleeping = true ∧ s.wakes = false) ∧
    (u.inputs = [] ∧ u.coreReset = false ∧ u.debugMode = false ∧ u.waiting = false ∧ u.seqWrap = false ∧ u.dm.haltreq = false ∧
      u.sleeping = true ∧ u.wakes = true) ∧
    ({ u with csr := { u.csr with mstatus := 0x1880 } } : State).csr.mstatus.getLsbD 3 = false ∧
    (v.sleeping = true ∧ v.wakes = false ∧
      (match step v with | .next t => !t.coreReset && t.wakes && !t.sleeping | _ => false) = true) := by decide

/-- The first and the last address of the map, a read-only one and the IPIC's. -/
theorem witness_CsrReadForms :
    csrExists State.reset 0x300 = true ∧ csrExists State.reset 0xBF7 = true ∧ csrExists State.reset 0xF14 = true ∧
    CsrOp.rs.writes 0 = false ∧ CsrOp.rc.writes 0 = false ∧ CsrOp.rsi.writes 0 = false ∧ CsrOp.rci.writes 0 = false := by decide

theorem witness_TrapCsrWrites :
    CsrOp.rw.writes 0 = true ∧ CsrOp.rwi.writes 0 = true ∧ CsrOp.rs.writes 31 = true ∧ CsrOp.rci.writes 1 = true ∧
    hasMcounten State.reset.cfg = true := by decide

/-- A refused MODE, an accepted one, and any MODE where it is not writable. -/
theorem witness_MtvecWrite :
    let s := withRegs [(6, 0x402), (7, 0xFFFFFFFD)]
    CsrOp.rw.writes 6 = true ∧ s.cfg.mtvecModeEn = true ∧ (CsrOp.rw.presents s 6 0x305).getLsbD 1 = true ∧
    (CsrOp.rw.presents s 7 0x305).getLsbD 1 = false ∧
    (onCfg { noM with mtvecModeEn := false } s).cfg.mtvecModeEn = false := by decide

theorem witness_CounterWrites :
    CsrOp.rw.writes 0 = true ∧ hasCounters State.reset.cfg = true ∧
    ({ State.reset with csr := { State.reset.csr with mcounten := 0 } } : State).countsInstret = false := by decide

theorem witness_IllegalCsrAccessTraps :
    State.reset.debugMode = false ∧ csrExists State.reset 0x302 = false ∧ csrExists State.reset 0x7B0 = false ∧
    CsrOp.rs.writes 6 = true ∧ (0xF14 : BitVec 12).extractLsb' 10 2 = 3#2 ∧ (0xC00 : BitVec 12).extractLsb' 10 2 = 3#2 := by decide

/-- The empty set, the lowest and the highest vector. -/
theorem witness_IpicReads :
    (0 : BitVec 16) = 0 ∧ (1 : BitVec 16) ≠ 0 ∧ (0x8000 : BitVec 16) ≠ 0 ∧ lowest 0 = 16 ∧ lowest 1 = 0 ∧ lowest 0x8000 = 15 := by
  decide

/-- A vector below the one in service, none below it, and nothing in service. -/
theorem witness_StartAndEndOfInterrupt :
    State.reset.cfg.ipicEn = true ∧ lowest (0x0101#16 &&& 0x0100#16) < lowest 0x8000 ∧ ¬lowest (0x8000#16 &&& 0x8000#16) < lowest 0x8000 ∧
    ¬lowest (0#16 &&& 0#16) < lowest 0 ∧ (0 : Nat) < 16 ∧ (15 : Nat) < 16 := by decide

/-- Nothing in service, and the highest vector; the first and the last register under a set or clear form. -/
theorem witness_IpicRegisterWrites :
    (CsrOp.rw = .rw ∨ CsrOp.rw = .rwi) ∧ (CsrOp.rwi = .rw ∨ CsrOp.rwi = .rwi) ∧ State.reset.cfg.ipicEn = true ∧
    lowest State.reset.ipic.isv = 16 ∧ lowest 0x8000 < 16 ∧
    0xBF0 ≤ (0xBF0 : BitVec 12).toNat ∧ (0xBF7 : BitVec 12).toNat ≤ 0xBF7 ∧
    CsrOp.rs ≠ .rw ∧ CsrOp.rci ≠ .rwi ∧ (1 : BitVec 5) ≠ 0 := by decide

theorem witness_CsrMapAndReadOnlyValues :
    State.reset.cfg.ipicEn = true ∧ (onCfg { noM with ipicEn := false } State.reset).cfg.ipicEn = false ∧
    State.reset.triggers[State.reset.tselect.toNat]? = some .resetMcontrol ∧
    Trigger.resetMcontrol.tdata1.extractLsb' 28 4 = 2#4 ∧ Trigger.resetIcount.tdata1.extractLsb' 28 4 = 3#4 ∧
    ({ State.reset with triggers := [] } : State).triggers[State.reset.tselect.toNat]? = none := by decide

/-- Inside and outside Core Reset, MCYCLE counting and standing still, the timer on and off, the highest vector. -/
theorem witness_TimePasses :
    ({ State.reset with pins := { State.reset.pins with cpu := true } } : State).coreReset = true ∧ State.reset.coreReset = false ∧
    hasMcounten State.reset.cfg = true ∧ State.reset.csr.mcounten.getLsbD 0 = true ∧
    ({ State.reset.csr with mcounten := 0x4 } : Csrs).mcounten.getLsbD 0 = false ∧
    State.reset.timer.ctrl.getLsbD 0 = true ∧ ({ State.reset.timer with ctrl := 0 } : Timer).ctrl.getLsbD 0 = false ∧
    (15 : Nat) < 16 ∧ State.reset.ipic.im.getLsbD 15 = false ∧ (0x8001 : BitVec 16).getLsbD 15 = true := by decide

/-- All three sources active: MIE selects which of them qualifies. -/
theorem witness_InterruptTakenByPriority :
    ∀ q ∈ [(0x888, true, true), (0x088, false, true), (0x080, false, false)],
      let s := onCfg { noM with ipicEn := false } { State.reset with
        csr := { State.reset.csr with mstatus := 0x1888, mie := BitVec.ofNat 32 q.1 }
        pins := { State.reset.pins with softIrq := true, extIrq := true } }
      s.inputs = [] ∧ s.coreReset = false ∧ s.debugMode = false ∧ s.waiting = false ∧ s.seqWrap = false ∧
      s.dm.haltreq = false ∧ s.stepping = false ∧ s.csr.mstatus.getLsbD 3 = true ∧ (s.csr.mie.getLsbD 11 && s.meip) = q.2.1 ∧
      (s.csr.mie.getLsbD 3 && s.msip) = q.2.2 ∧ (s.csr.mie.getLsbD 7 && s.mtip) = true := by decide

theorem ready_reset : State.reset.Ready := ⟨⟨rfl, rfl, rfl, rfl, rfl, rfl, rfl, rfl, .inl rfl⟩, by decide⟩

/-- An aligned word, and a word on a 2-byte boundary that is the last before the top. -/
theorem witness_StepRunsDecodedInstruction :
    (let s := State.reset.withFetchWord 32 0x00128293
     s.Ready ∧ s.Fetchable ∧ decode s.cfg s.fetchBytes = .ok (.addi 5 5 1, [])) ∧
    (let s := { State.reset with pc := 0xFFFFFFFA }.withFetchWord 32 0x00128293
     s.Ready ∧ s.Fetchable ∧ decode s.cfg s.fetchBytes = .ok (.addi 5 5 1, [])) :=
  ⟨⟨⟨⟨rfl, rfl, rfl, rfl, rfl, rfl, rfl, rfl, .inl rfl⟩, by decide⟩, ⟨by decide, by decide, by decide, rfl⟩, by decide⟩,
    ⟨⟨⟨rfl, rfl, rfl, rfl, rfl, rfl, rfl, rfl, .inl rfl⟩, by decide⟩, ⟨by decide, by decide, by decide, rfl⟩, by decide⟩⟩

/-- An aligned address, a fetch that may see an old word, and stores to the last byte, halfword and word of the TCM. -/
theorem witness_FetchSeesOldOrNewWord :
    let s := { State.reset.withFetchWord 32 0x00128293 with stale := [(0x00480000, 0x00000013)] }
    (0xFFFFFFFC : Word) &&& 3 = 0 ∧ s.Ready ∧
    (fetchStatus s.cfg s.pc = .ok ∧ fetchStatus s.cfg (s.pc + 2) = .ok ∧ s.pc ≠ 0xFFFFFFFE ∧
      decode s.cfg [fetchByte s s.pc, fetchByte s (s.pc + 1), fetchByte s (s.pc + 2), fetchByte s (s.pc + 3)] =
        .ok (.addi 5 5 1, [])) ∧
    RamAt s true 0x0048FFFF 1 ∧ RamAt s true 0x0048FFFE 2 ∧ RamAt s true 0x0048FFFC 4 :=
  ⟨by decide, ⟨⟨rfl, rfl, rfl, rfl, rfl, rfl, rfl, rfl, .inl rfl⟩, by decide⟩, by decide, by unfold RamAt; decide,
    by unfold RamAt; decide, by unfold RamAt; decide⟩

/-- A byte stored over an instruction and fetched without FENCE.I: the new one or the old one (R125). -/
theorem test_stale_byte :
    let s := { State.reset with mem := [(0x200, 0x13)], stale := [(0x200, 0x00128293)] }
    fetchByte s 0x201 = 0 ∨ fetchByte s 0x201 = 0x82 := by
  have h := Nat.mod_lt (Config.staleChoice 0 0x200) (show 0 < 2 by decide)
  let byte (k : Nat) : Byte := byteOf ((([0x13, 0x00128293] : List Word)[k]?).getD 0x13) 1
  show byte (Config.staleChoice 0 0x200 % 2) = 0 ∨ byte (Config.staleChoice 0 0x200 % 2) = 0x82
  generalize Config.staleChoice 0 0x200 % 2 = k at h
  match k, h with
  | 0, _ => exact .inl rfl
  | 1, _ => exact .inr rfl

/-- A long word, a short one, a pc whose word is answered with an error, and one whose word is never answered; the second word of an
instruction that lies in two words, and one that would reach past the top. -/
theorem witness_UnexecutableWordTraps :
    (let s := State.reset.withFetchWord 32 0xFFFFFFFF
     s.Ready ∧ s.Fetchable ∧ decode s.cfg s.fetchBytes = .error .unlisted) ∧
    (let s := State.reset.withFetchWord 16 0x8002
     s.Ready ∧ s.Fetchable ∧ decode s.cfg s.fetchBytes = .error .reserved) ∧
    (let s := onCfg { Config.rv32imcMax with imemErr := [⟨0, 0x400⟩] } State.reset
     s.Ready ∧ fetchStatus s.cfg s.pc = .error) ∧
    (let s := onCfg { Config.rv32imcMax with imemHang := [⟨0, 0x204⟩] } State.reset
     s.Ready ∧ fetchStatus s.cfg s.pc = .stuck) ∧
    (∀ c ∈ [{ Config.rv32imcMax with imemErr := [⟨0x204, 4⟩] }, { Config.rv32imcMax with imemHang := [⟨0x204, 4⟩] }, Config.rv32imcMax],
      let s := { onCfg c State.reset with pc := if c.imemErr = [] ∧ c.imemHang = [] then 0xFFFFFFFE else 0x202
                                          mem := [(0x202, 0x13), (0xFFFFFFFE, 0x13)] }
      (s.inputs = [] ∧ s.coreReset = false ∧ s.debugMode = false ∧ s.waiting = false ∧ s.seqWrap = false ∧ s.dm.haltreq = false ∧
        s.sleeping = false ∧ s.stepping = false ∧ s.csr.mstatus.getLsbD 3 = false ∧ ∀ t ∈ s.triggers, t.disabled = true) ∧
      s.pc.getLsbD 1 = true ∧ s.stale = [] ∧ fetchStatus s.cfg s.pc = .ok ∧ (s.byteAt s.pc).extractLsb' 0 2 = 3#2 ∧
      (c.imemErr ≠ [] → s.pc ≠ 0xFFFFFFFE ∧ fetchStatus s.cfg (s.pc + 2) = .error) ∧
      (c.imemHang ≠ [] → s.pc ≠ 0xFFFFFFFE ∧ fetchStatus s.cfg (s.pc + 2) = .stuck)) :=
  ⟨⟨⟨⟨rfl, rfl, rfl, rfl, rfl, rfl, rfl, rfl, .inl rfl⟩, by decide⟩, ⟨by decide, by decide, by decide, rfl⟩, by decide⟩,
    ⟨⟨⟨rfl, rfl, rfl, rfl, rfl, rfl, rfl, rfl, .inl rfl⟩, by decide⟩, ⟨by decide, by decide, by decide, rfl⟩, by decide⟩,
    ⟨⟨⟨rfl, rfl, rfl, rfl, rfl, rfl, rfl, rfl, .inl rfl⟩, by decide⟩, by decide⟩, ⟨⟨⟨rfl, rfl, rfl, rfl, rfl, rfl, rfl, rfl, .inl rfl⟩, by decide⟩, by decide⟩, by decide⟩

/-- Instructions at the ends of their operands, and bytes that decode to an instruction with bytes left over; and words the
decoder refuses by name: reserved, RES, NSE, unlisted, of an absent extension, of a register above x15. -/
theorem witness_DecodeEncodeAgree :
    (Instr.addi 31 31 0x800).wellFormed Config.rv32imcMax = true ∧ (Instr.cLui 31 0x3F).wellFormed Config.rv32imcMax = true ∧
    (Instr.mul 31 0 1).wellFormed noC = true ∧ (Instr.add 15 15 15).wellFormed baseE = true ∧
    decode noC [0x93, 0x82, 0x12, 0x00, 0xFF] = .ok (.addi 5 5 1, [0xFF]) ∧
    decode Config.rv32imcMax [0x01, 0x00, 0xFF] = .ok (.cNop, [0xFF]) ∧
    decode Config.rv32imcMax [0x02, 0x80] = .error .reserved ∧ decode Config.rv32imcMax [0x04, 0x00] = .error .reserved ∧
    decode Config.rv32imcMax [0x11, 0x91] = .error .nonStandard ∧ decode Config.rv32imcMax [0x00, 0x20] = .error .unlisted ∧
    decode Config.rv32imcMax [0xFF, 0xFF, 0xFF, 0xFF] = .error .unlisted ∧
    decode noM [0xB3, 0x83, 0x62, 0x02] = .error .noExtension ∧
    decode baseE [0x33, 0x88, 0x62, 0x00] = .error .rveRegister ∧ decode noC [0x01, 0x00, 0x00, 0x00] = .error .unlisted := by
  decide

theorem legal_reset : State.reset.RegsLegal :=
  ⟨⟨by decide, by decide, by decide, by decide, by decide, by decide⟩,
    ⟨by intro k h1 h2; revert h1; revert k; decide, fun h => absurd h (by decide), fun h => absurd h (by decide)⟩,
    .inl rfl, ⟨by decide, by decide, by decide⟩, by unfold dcsrLegal; decide, by
    intro t ht
    have h : t = Trigger.resetMcontrol ∨ t = Trigger.resetIcount := by
      revert ht t; decide
    rcases h with rfl | rfl
    · left; decide
    · right; decide⟩

theorem witness_StepKeepsMemoryCanonical : (tcm []).mem.wf ∧ goesOn (step (tcm [])) = true := by decide
theorem witness_StepKeepsReservedBits : State.reset.RegsLegal ∧ goesOn (step State.reset) = true := ⟨legal_reset, by decide⟩
theorem witness_StepKeepsPcAligned : State.reset.PcLegal ∧ goesOn (step State.reset) = true :=
  ⟨⟨by decide, by decide⟩, by decide⟩
theorem witness_RunningHartLeavesDebuggerAlone : State.reset.inputs = [] ∧ goesOn (step State.reset) = true := by decide

/-- Either pin, either value of MODE.hdu_rst_bhv, and a hart that waits on the bus. -/
theorem witness_CoreResetEvent :
    let s := { State.reset with inputs := [.resetPin .cpu true, .run], waiting := true }
    let u := { s with scu := { Scu.reset with mode := 2 } }
    s.inputs = .resetPin .cpu true :: [.run] ∧ s.pins.pwrup = false ∧ s.scu.control = 0 ∧ s.cfg.mprfRstEn = true ∧
    s.scu.mode.getLsbD 1 = false ∧ u.pins.pwrup = false ∧ u.scu.control = 0 ∧ u.scu.mode.getLsbD 1 = true := by decide

/-- The power-up pin; each bit of CONTROL, with each value of MODE. -/
theorem witness_PowerUpAndScuResets :
    ({ State.reset with inputs := [.resetPin .pwrup true] } : State).inputs = .resetPin .pwrup true :: [] ∧
    (∀ d ∈ [(1 : BitVec 4), 2], ∀ m ∈ [(0 : BitVec 4), 1, 2, 3],
      let s := { State.reset with inputs := [.scu .write 0 d], scu := { Scu.reset with mode := m } }
      s.inputs = .scu .write 0 d :: [] ∧ s.cfg.dbgEn = true ∧ s.pins.pwrup = false ∧ s.pins.trst = false ∧
      (d.getLsbD 0 = true ∨ d.getLsbD 1 = true)) ∧
    ((1 : BitVec 4).getLsbD 0 && (1 : BitVec 4).getLsbD 0) = true ∧ ((2 : BitVec 4).getLsbD 0 && (1 : BitVec 4).getLsbD 0) = false ∧
    (2 : BitVec 4).getLsbD 1 = true ∧ (1 : BitVec 4).getLsbD 1 = false := by decide

/-- A running hart; the last reset released by its pin, by the SCU and by ndmreset. -/
theorem witness_HaltRequestEntersDebugMode :
    let s := { State.reset with dm := { Dm.reset with dmactive := true, haltreq := true } }
    let u := { s with inputs := [.resetPin .rst false], pins := { s.pins with rst := true } }
    let c := { s with inputs := [.scu .write 0 0], scu := { Scu.reset with control := 3 } }
    let n := { s with inputs := [.dmiWrite 0x10 0x80000001], dm := { s.dm with ndmreset := true } }
    s.cfg.dbgEn = true ∧ s.dm.haltreq = true ∧
    (s.inputs = [] ∧ s.coreReset = false ∧ s.debugMode = false ∧ s.waiting = false ∧ s.seqWrap = false ∧
      s.csr.mstatus.getLsbD 3 = false ∧ ∀ t ∈ s.triggers, t.disabled = true) ∧
    (u.coreReset = true ∧ u.inputs = .resetPin .rst false :: [] ∧
      ({ u with pins := setResetPin u.pins .rst false } : State).coreReset = false) ∧
    (c.coreReset = true ∧ c.inputs = .scu .write 0 0 :: [] ∧ c.tapReset = false ∧
      ({ c with scu := { c.scu with control := 0 } } : State).coreReset = false) ∧
    (n.coreReset = true ∧ n.inputs = .dmiWrite 0x10 0x80000001 :: [] ∧ n.tapReset = false ∧ n.dm.dmactive = true ∧
      n.dm.busy = false ∧ ({ n with dm := { n.dm with ndmreset := false } } : State).coreReset = false) := by decide

theorem dmReady (s : State) (h : s.cfg.dbgEn = true ∧ s.coreReset = false ∧ s.tapReset = false ∧ s.dm.dmactive = true) :
    s.DmReady := ⟨h.1, h.2.1, h.2.2.1, h.2.2.2⟩

theorem commandReady (s : State) (h : s.DmReady)
    (h' : s.debugMode = true ∧ s.waiting = false ∧ s.dm.busy = false ∧ s.dm.cmderr = 0 ∧ s.dm.haltreq = false) :
    s.CommandReady := ⟨h, h'.1, h'.2.1, h'.2.2.1, h'.2.2.2.1, h'.2.2.2.2⟩

/-- dmactive 0; a halt request and both clears; resume to the last address, and, without the C extension, to one it refuses;
ndmreset, while a command executes too; a halt request while one does. -/
theorem witness_DmcontrolWrites :
    halted.DmReady ∧ ({ halted with dpc := 0xFFFFFFFE } : State).DmReady ∧ hung.DmReady ∧
    (∀ v ∈ [0x00000000, 0x90000001, 0x40000001, 0x40000003], (BitVec.ofNat 32 v : Word).getLsbD 0 = (v != 0)) ∧
    ((0x90000001 : Word).getLsbD 30 = false ∧ (0x90000001 : Word).getLsbD 1 = false) ∧
    ((0x40000001 : Word).getLsbD 30 = true ∧ (0x40000001 : Word).getLsbD 31 = false ∧ (0x40000001 : Word).getLsbD 1 = false ∧
      halted.debugMode = true ∧ halted.waiting = false ∧ halted.dm.busy = false) ∧
    pcAligned halted.cfg 0xFFFFFFFE = true ∧ pcAligned noC 0xFFFFFFFE = false ∧ (0x40000003 : Word).getLsbD 1 = true ∧
    hung.dm.busy = true ∧ ((0x80000001 : Word).getLsbD 0 && (0x80000001 : Word).getLsbD 31) = true ∧
    ((0x00000003 : Word).getLsbD 31 || (0x00000003 : Word).getLsbD 30 || (0x00000003 : Word).getLsbD 28) = false :=
  ⟨dmReady _ (by decide), dmReady _ (by decide), dmReady _ (by decide), by decide, by decide, by decide, by decide, by decide,
    by decide, by decide, by decide, by decide⟩

/-- An idle module, one with a command executing, the first and the last word of the Program Buffer, and the first and the
last Reserved address. -/
theorem witness_DmRegisterReads :
    halted.DmReady ∧ hung.DmReady ∧ halted.dm.busy = false ∧ halted.dm.autoexec.getLsbD 0 = false ∧
    halted.dm.autoexec.getLsbD 1 = false ∧ hung.dm.busy = true ∧ (0x20 : BitVec 7).toNat = 0x20 + (0 : Fin 6).val ∧
    (0x25 : BitVec 7).toNat = 0x20 + (5 : Fin 6).val ∧
    (∀ a ∈ [(0 : BitVec 7), 0x7F],
      a.toNat ∉ [0x04, 0x05, 0x10, 0x11, 0x12, 0x16, 0x17, 0x18, 0x20, 0x21, 0x22, 0x23, 0x24, 0x25, 0x40]) :=
  ⟨dmReady _ (by decide), dmReady _ (by decide), by decide, by decide, by decide, by decide, by decide, by decide, by decide⟩

/-- An idle module, one with a command executing, one that is not active; the first and the last word of the Program Buffer, and
the first and the last Reserved address. -/
theorem witness_DmRegisterWrites :
    halted.DmReady ∧ hung.DmReady ∧ halted.dm.busy = false ∧ halted.dm.autoexec.getLsbD 0 = false ∧
    halted.dm.autoexec.getLsbD 1 = false ∧ hung.dm.busy = true ∧ (0x20 : BitVec 7).toNat = 0x20 + (0 : Fin 6).val ∧
    (0x25 : BitVec 7).toNat = 0x20 + (5 : Fin 6).val ∧
    (∀ a ∈ [(0 : BitVec 7), 0x7F],
      a.toNat ∉ [0x04, 0x05, 0x10, 0x11, 0x12, 0x16, 0x17, 0x18, 0x20, 0x21, 0x22, 0x23, 0x24, 0x25, 0x40]) ∧
    (State.reset.cfg.dbgEn = true ∧ State.reset.coreReset = false ∧ State.reset.tapReset = false ∧
      State.reset.dm.dmactive = false ∧ State.reset.dm.busy = false ∧ (0x80000001 : Word).getLsbD 0 = true) :=
  ⟨dmReady _ (by decide), dmReady _ (by decide), by decide, by decide, by decide, by decide, by decide, by decide, by decide,
    by decide⟩

/-- A stepped instruction that completes, and one that traps. -/
theorem witness_SingleStepReentersDebugMode :
    ∀ p ∈ [(0x200#32, 0x00128293, false), (0x200#32, 0x00000073, false), (0xFFFFFFFC#32, 0x00128293, true)],
      let s := { State.reset with dcsr := 0x40000007, pc := p.1 }.withFetchWord 32 p.2.1
      s.inputs = [] ∧ s.coreReset = false ∧ s.debugMode = false ∧ s.waiting = false ∧ s.seqWrap = false ∧
      s.dm.haltreq = false ∧ s.sleeping = false ∧ s.stepping = true ∧ s.dcsr.getLsbD 11 = false ∧ (∀ t ∈ s.triggers, t.disabled = true) ∧
      (fetchStatus s.cfg s.pc = .ok ∧ fetchStatus s.cfg (s.pc + 2) = .ok ∧ s.pc ≠ 0xFFFFFFFE ∧ s.stale = []) ∧
      (match decode s.cfg s.fetchBytes with
       | .ok (i, _) => (match exec i s with
         | .next t => !t.debugMode && !t.waiting && t.seqWrap == p.2.2
         | _ => false)
       | .error _ => false) = true := by decide

/-- An instruction stepped onto an execute trigger with action 0. -/
theorem witness_SingleStepReentersDebugMode_trigger :
    let x : Trigger := ⟨0x20000044, 0x200, false⟩
    let s := { State.reset with dcsr := 0x40000007, triggers := [x, .resetIcount] }
    s.inputs = [] ∧ s.coreReset = false ∧ s.debugMode = false ∧ s.waiting = false ∧ s.seqWrap = false ∧
    s.dm.haltreq = false ∧ s.sleeping = false ∧ s.stepping = true ∧ s.dcsr.getLsbD 11 = false ∧ s.triggers = x :: [.resetIcount] ∧
    (∀ y ∈ [Trigger.resetIcount], y.disabled = true) ∧ x.isMcontrol = true ∧ x.mcontrolM = true ∧ x.chain = false ∧
    x.execute = true ∧ x.tdata2 = s.pc ∧ x.tdata1.getLsbD 12 = false := by decide

theorem witness_DebugModeExceptionChangesNothing :
    halted.debugMode = true ∧ halted.pb = .none ∧ ∃ t, exec .cIllegal halted = .next t ∧ t.pb = .exception :=
  ⟨rfl, rfl, _, rfl, rfl⟩

theorem readyButTriggers (s : State) (h : s.inputs = [] ∧ s.coreReset = false ∧ s.debugMode = false ∧ s.waiting = false ∧
    s.seqWrap = false ∧ s.dm.haltreq = false ∧ s.sleeping = false ∧ s.stepping = false ∧ s.csr.mstatus.getLsbD 3 = false) :
    s.ReadyButTriggers := ⟨h.1, h.2.1, h.2.2.1, h.2.2.2.1, h.2.2.2.2.1, h.2.2.2.2.2.1, h.2.2.2.2.2.2.1, h.2.2.2.2.2.2.2.1,
      .inl h.2.2.2.2.2.2.2.2⟩

theorem fetchable (s : State) (h : fetchStatus s.cfg s.pc = .ok ∧ fetchStatus s.cfg (s.pc + 2) = .ok ∧ s.pc ≠ 0xFFFFFFFE ∧
    s.stale = []) : s.Fetchable := ⟨h.1, h.2.1, h.2.2.1, h.2.2.2⟩

/-- Both actions, by the pc, by a load and by a store. -/
theorem witness_AddressTriggersFire :
    ∀ w ∈ [0x20000047, 0x28001047],
      let y := { Trigger.resetMcontrol with tdata1 := BitVec.ofNat 32 w, tdata2 := 0x200 }
      let s := { withRegs [(5, 0x200)] with triggers := [y, .resetMcontrol, .resetIcount] }
      let l := s.withFetchWord 32 0x0002A303
      let u := s.withFetchWord 32 0x0062A023
      s.triggers = y :: [.resetMcontrol, .resetIcount] ∧ y.isMcontrol = true ∧ y.mcontrolM = true ∧ y.execute = true ∧
      y.load = true ∧ y.store = true ∧ y.chain = false ∧ y.tdata2 = s.pc ∧
      (∀ t ∈ [Trigger.resetMcontrol, .resetIcount], t.disabled = true) ∧ s.ReadyButTriggers ∧ l.Fetchable ∧ u.Fetchable ∧
      decode l.cfg l.fetchBytes = .ok (.lw 6 5 0, []) ∧ dataAccess l (.lw 6 5 0) = .load y.tdata2 ∧
      decode u.cfg u.fetchBytes = .ok (.sw 5 6 0, []) ∧ dataAccess u (.sw 5 6 0) = .store y.tdata2 := by
  intro w hw
  have h : w = 0x20000047 ∨ w = 0x28001047 := by simpa using hw
  rcases h with rfl | rfl <;>
  exact ⟨rfl, by decide, by decide, by decide, by decide, by decide, by decide, by decide, by decide,
    readyButTriggers _ (by decide), fetchable _ (by decide), fetchable _ (by decide), by decide, by decide, by decide, by decide⟩

/-- Two chained triggers: both match, only the first, only the second. -/
theorem witness_AddressTriggersFire_chained :
    ∀ a ∈ [0x200, 0x201], ∀ b ∈ [0x200, 0x201],
      let x : Trigger := ⟨0x20000844, BitVec.ofNat 32 a, false⟩
      let y : Trigger := ⟨0x20000044, BitVec.ofNat 32 b, false⟩
      let s := { State.reset with triggers := [x, y, .resetIcount] }.withFetchWord 32 0x00128293
      s.triggers = x :: y :: [.resetIcount] ∧ x.chain = true ∧ y.chain = false ∧
      (∀ z ∈ [x, y], z.isMcontrol = true ∧ z.mcontrolM = true ∧ z.execute = true ∧ z.load = false ∧ z.store = false) ∧
      (x.tdata2 = s.pc ↔ a = 0x200) ∧ (y.tdata2 = s.pc ↔ b = 0x200) ∧
      s.inputs = [] ∧ s.coreReset = false ∧ s.debugMode = false ∧ s.waiting = false ∧ s.seqWrap = false ∧
      s.dm.haltreq = false ∧ s.sleeping = false ∧ s.stepping = false ∧ s.csr.mstatus.getLsbD 3 = false ∧
      fetchStatus s.cfg s.pc = .ok ∧ fetchStatus s.cfg (s.pc + 2) = .ok ∧ s.pc ≠ 0xFFFFFFFE ∧ s.stale = [] ∧
      decode s.cfg s.fetchBytes = .ok (.addi 5 5 1, []) := by decide

/-- A load trigger below an execute trigger, both firing, with every pair of actions. -/
theorem witness_AddressTriggersFire_both :
    ∀ a ∈ [0x20000041, 0x28001041], ∀ b ∈ [0x20000044, 0x28001044],
      let x : Trigger := ⟨BitVec.ofNat 32 a, 0x00480000, false⟩
      let y : Trigger := ⟨BitVec.ofNat 32 b, 0x200, false⟩
      let s := { withRegs [(5, 0x00480000)] with triggers := [x, y, .resetIcount] }.withFetchWord 32 0x0002A303
      s.triggers = x :: y :: [.resetIcount] ∧ (∀ z ∈ [x, y], z.isMcontrol = true ∧ z.mcontrolM = true ∧ z.chain = false) ∧
      (∀ z ∈ [Trigger.resetIcount], z.disabled = true) ∧
      s.inputs = [] ∧ s.coreReset = false ∧ s.debugMode = false ∧ s.waiting = false ∧ s.seqWrap = false ∧
      s.dm.haltreq = false ∧ s.sleeping = false ∧ s.stepping = false ∧ s.csr.mstatus.getLsbD 3 = false ∧
      fetchStatus s.cfg s.pc = .ok ∧ fetchStatus s.cfg (s.pc + 2) = .ok ∧ s.pc ≠ 0xFFFFFFFE ∧ s.stale = [] ∧
      decode s.cfg s.fetchBytes = .ok (.lw 6 5 0, []) ∧ x.load = true ∧ dataAccess s (.lw 6 5 0) = .load x.tdata2 ∧
      y.execute = true ∧ y.tdata2 = s.pc := by decide

/-- Both actions, after an instruction that completes and one that traps. -/
theorem witness_IcountFires :
    ∀ d ∈ [0x30000600, 0x38000601],
    ∀ p ∈ [(0x200#32, 0x00128293, false), (0x200#32, 0x00000073, false), (0xFFFFFFFC#32, 0x00128293, true)],
      let x : Trigger := ⟨BitVec.ofNat 32 d, 0, false⟩
      let s := { State.reset with triggers := [.resetMcontrol, x], pc := p.1 }.withFetchWord 32 p.2.1
      s.triggers = [.resetMcontrol] ++ [x] ∧ x.isIcount = true ∧ x.icountM = true ∧ x.tdata1.extractLsb' 10 14 = 1#14 ∧
      x.fired = false ∧ (∀ y ∈ [Trigger.resetMcontrol], y.isMcontrol = true ∧ y.disabled = true) ∧
      s.inputs = [] ∧ s.coreReset = false ∧ s.debugMode = false ∧ s.waiting = false ∧ s.seqWrap = false ∧
      s.dm.haltreq = false ∧ s.sleeping = false ∧ s.stepping = false ∧ s.csr.mstatus.getLsbD 3 = false ∧
      fetchStatus s.cfg s.pc = .ok ∧ fetchStatus s.cfg (s.pc + 2) = .ok ∧ s.pc ≠ 0xFFFFFFFE ∧ s.stale = [] ∧
      (match decode s.cfg s.fetchBytes with
       | .ok (i, _) => (match exec i s with
         | .next t => decide (t.triggers = s.triggers) && !t.debugMode && !t.waiting && t.seqWrap == p.2.2
         | _ => false)
       | .error _ => false) = true := by decide

theorem witness_TriggerRegisterWrites :
    let y := { Trigger.resetMcontrol with tdata1 := 0x28000000 }
    let s := { State.reset with triggers := [y, .resetIcount] }
    CsrOp.rw.writes 0 = true ∧ s.cfg.dbgEn = true ∧ s.cfg.tduEn = true ∧ s.triggers[s.tselect.toNat]? = some y ∧
    y.tdata1.getLsbD 27 = true ∧ s.debugMode = false ∧
    State.reset.triggers[State.reset.tselect.toNat]? = some .resetMcontrol ∧
    Trigger.resetMcontrol.tdata1.getLsbD 27 = false := by decide

/-- Triggers 0 to 2 MCONTROL, the last ICOUNT; TDATA1 written `v` with trigger `n` selected, in Debug Mode or not. -/
def tduState (n : Nat) (debug : Bool) (t1s : List Nat) (v : Nat) : State :=
  { withRegs [(6, v)] with
    debugMode := debug, tselect := BitVec.ofNat 32 n, triggers := t1s.map (fun w => ⟨BitVec.ofNat 32 w, 0, false⟩) }

/-- In Debug Mode dmode and action 1, chain before a trigger, chain zeroed before a protected one, the ignored write, and the
refusals; outside it an unprotected MCONTROL and ICOUNT; ICOUNT with both actions. -/
theorem witness_TriggerRegisterWrites_control :
    (∀ q ∈ [(0, true, [0x20000000, 0x20000000, 0x30000400], 0x28001847), (0, true, [0x28000000, 0x28000000, 0x30000400], 0x20000800),
        (1, true, [0x20000800, 0x20000000, 0x30000400], 0x28000000), (0, true, [0x20000000, 0x20000000, 0x30000400], 0x28000080),
        (1, true, [0x20000000, 0x20000000, 0x30000400], 0x28000800), (0, false, [0x20000000, 0x20000000, 0x30000400], 0x00001000),
        (0, false, [0x20000000, 0x20000000, 0x30000400], 0x00100047), (2, true, [0x20000000, 0x20000000, 0x30000400], 0x08000601),
        (2, true, [0x20000000, 0x20000000, 0x30000400], 0x00000601), (2, false, [0x20000000, 0x20000000, 0x30000400], 0x01FFFE00)],
      let s := tduState q.1 q.2.1 q.2.2.1 q.2.2.2
      CsrOp.rw.writes 6 = true ∧ s.cfg.dbgEn = true ∧ s.cfg.tduEn = true ∧ s.debugMode = q.2.1 ∧
      (match s.triggers[s.tselect.toNat]? with
       | some x => (!x.tdata1.getLsbD 27 || s.debugMode) && x.tdata1.extractLsb' 28 4 == (if q.1 = 2 then 3#4 else 2#4)
       | none => false) = true ∧
      CsrOp.rw.presents s 6 0x7A1 = BitVec.ofNat 32 q.2.2.2) ∧
    (let s := tduState 1 true [0x20000800, 0x20000000, 0x30000400] 0x28000000
     (CsrOp.rw.presents s 6 0x7A1).getLsbD 27 = true ∧ 0 < s.tselect.toNat ∧
     s.triggers[s.tselect.toNat - 1]? = some ⟨0x20000800, 0, false⟩) ∧
    (let s := tduState 0 true [0x28000000, 0x28000000, 0x30000400] 0x20000800
     (CsrOp.rw.presents s 6 0x7A1).getLsbD 27 = false ∧ s.triggers[s.tselect.toNat + 1]? = some ⟨0x28000000, 0, false⟩) ∧
    (let s := tduState 1 true [0x20000000, 0x20000000, 0x30000400] 0x28000800
     s.triggers[s.tselect.toNat + 1]? = some ⟨0x30000400, 0, false⟩) := by decide

theorem witness_DebugCsrWrites :
    CsrOp.rw.writes 0 = true ∧ halted.cfg.dbgEn = true ∧ halted.debugMode = true := by decide

/-- A machine about to write `c` to COMMAND. -/
def commanded (s : State) (c : Word) : State := { s with inputs := [.dmiWrite 0x17 c] }

/-- The last register read; read again by a write of DATA0; without it under RVE; CSRs read and written, absent, read only; the
regnos above Table 54; a running hart; the halt request standing; a command after an error; a command while one executes. -/
theorem witness_AccessRegisterCommand :
    let c : Word := 0x00220000#32 ||| (0x1000#32 ||| (31 : Reg).setWidth 32)
    let w : Word := 0x00230000#32 ||| (0x1000#32 ||| (31 : Reg).setWidth 32)
    let s := commanded halted c
    let a := { halted with inputs := [.dmiWrite 0x04 5], dm := { halted.dm with autoexec := 1, command := w } }
    let r := { s with debugMode := false }
    let q := { s with dm := { s.dm with haltreq := true } }
    let e := { s with dm := { s.dm with cmderr := 3 } }
    let b := commanded hung c
    s.CommandReady ∧ s.cfg.rve = false ∧ (commanded (onCfg baseE halted) c).cfg.rve = true ∧
    (a.CommandReady ∧ a.dm.autoexec.getLsbD 0 = true ∧ a.dm.command = w) ∧
    (r.DmReady ∧ r.debugMode = false ∧ r.dm.busy = false ∧ r.dm.cmderr = 0 ∧ r.dm.haltreq = false) ∧
    (q.DmReady ∧ q.dm.busy = false ∧ q.dm.cmderr = 0 ∧ q.dm.haltreq = true) ∧
    (e.DmReady ∧ e.dm.busy = false ∧ e.dm.cmderr ≠ 0) ∧ (b.DmReady ∧ b.dm.busy = true) ∧
    (csrExists s 0x7B2 = true ∧ csrExists s 0xFFF = false ∧ csrExists s 0xF14 = true ∧ csrReadOnly 0xF14 = true ∧
      csrReadOnly 0x7B2 = false ∧ csrReadOnly 0x305 = false ∧ goesOn (csrWrite s 0x300 0xFFFFFFFF) = true) ∧
    csrWrite s 0x305 0x2 = .refused .mtvecMode ∧
    0x1020 ≤ (0x1020 : BitVec 16).toNat ∧ 0x1020 ≤ (0xFFFF : BitVec 16).toNat :=
  ⟨commandReady _ (dmReady _ (by decide)) (by decide), rfl, rfl,
    ⟨commandReady _ (dmReady _ (by decide)) (by decide), by decide, rfl⟩,
    ⟨dmReady _ (by decide), rfl, rfl, rfl, rfl⟩, ⟨dmReady _ (by decide), rfl, rfl, rfl⟩,
    ⟨dmReady _ (by decide), rfl, by decide⟩, ⟨dmReady _ (by decide), rfl⟩, by decide, rfl, by decide, by decide⟩

/-- Commands of each kind: cmdtype 1 and 255, each option not supported, no transfer, the reads a running hart allows, and what
it does not. -/
theorem witness_AccessRegisterCommand_kinds :
    ([0x01000000, 0xFF000000] : List Word).all (fun c => c.extractLsb' 24 8 != 0 && c.extractLsb' 24 8 != 2) = true ∧
    ([0x00080000, 0x00800000, 0x00121008, 0x00321008, 0x00221020, 0x0023FFFF] : List Word).all (fun c => c.extractLsb' 24 8 == 0 &&
      (c.getLsbD 19 || c.getLsbD 23 ||
        (c.getLsbD 17 && (c.extractLsb' 20 3 != 2 || decide (0x1020 ≤ (c.extractLsb' 0 16).toNat))))) = true := by decide

theorem witness_AccessRegisterCommand_running :
    ([0x00000000, 0x00010000, 0x00220301, 0x00220F14, 0x002207B1, 0x00221000, 0x00230301, 0x00260301, 0x0022101F] : List Word).all
      (fun c => c.extractLsb' 24 8 == 0 && !(c.getLsbD 19 || c.getLsbD 23 ||
        (c.getLsbD 17 && (c.extractLsb' 20 3 != 2 || decide (0x1020 ≤ (c.extractLsb' 0 16).toNat))))) = true ∧
    ([0x00220301, 0x00220F14, 0x002207B1] : List Word).all (fun c => c.getLsbD 17 && !c.getLsbD 16 && !c.getLsbD 18 &&
      [(0x301 : BitVec 16), 0xF11, 0xF12, 0xF13, 0xF14, 0x7B1].contains (c.extractLsb' 0 16)) = true ∧
    ([0x00230301, 0x00260301] : List Word).all (fun c => !(c.getLsbD 17 && !c.getLsbD 16 && !c.getLsbD 18)) = true := by decide

/-- Every size at the ends of the TCM, a misaligned access, an error and no answer; the timer by the word, the byte
and the halfword, and its holes; each option not supported. -/
theorem witness_AccessMemoryCommand :
    let at_ (c : Nat) (a : Word) (op : Word) : State :=
      { onCfg (if c = 0 then Config.rv32imcMax else errsHangs) halted with
        inputs := [.dmiWrite 0x17 op], dm := { halted.dm with data1 := a } }
    let word (size : BitVec 2) (w : Bool) : Word := 0x02000000#32 ||| (size.setWidth 32 <<< 20) ||| (if w then 0x00010000 else 0)
    (at_ 0 0x0048FFFC (word 2 true)).CommandReady ∧ (at_ 0 0x0048FFFC (word 2 true)).mem.wf ∧
    (∀ size ∈ [(0 : BitVec 2), 1, 2], ∀ w ∈ [false, true],
      size ≠ 3 ∧ (at_ 0 0x0048FFFC (word size w)).inputs = .dmiWrite 0x17 (word size w) :: [] ∧
      RamAt (at_ 0 0x0048FFFC (word size w)) w 0x0048FFFC (2 ^ size.toNat) ∧
      HangAt (at_ 1 0x70000000 (word size w)) w 0x70000000 (2 ^ size.toNat) ∧
      ErrorAt (at_ 1 0xFFFFFFFC (word size false)) false 0xFFFFFFFC (2 ^ size.toNat)) ∧
    (0x0048FFFF : Word).toNat % 2 ^ (1 : BitVec 2).toNat ≠ 0 ∧ (0x0048FFFE : Word).toNat % 2 ^ (2 : BitVec 2).toNat ≠ 0 ∧
    (∀ k ∈ [0x00490000, 0x00490014, 0x00490018, 0x0049001C], (BitVec.ofNat 32 k : Word).toNat % 4 = 0 ∧
      inTimer Config.rv32imcMax (BitVec.ofNat 32 k) = true) ∧
    (2 ^ (0 : BitVec 2).toNat ≠ 4 ∧ 2 ^ (1 : BitVec 2).toNat ≠ 4) :=
  ⟨commandReady _ (dmReady _ (by decide)) (by decide), by decide, by unfold RamAt HangAt ErrorAt; decide, by decide, by decide, by decide, by decide⟩

theorem witness_AccessMemoryCommand_options :
    ([0x02200001, 0x02220000, 0x02240000, 0x02280000, 0x02A00000, 0x02300000] : List Word).all (fun c =>
      c.extractLsb' 24 8 == 2 && (c.extractLsb' 0 16 != 0 || c.extractLsb' 17 2 != 0 || c.getLsbD 19 || c.getLsbD 23 ||
        decide (2 < (c.extractLsb' 20 3).toNat))) = true := by decide

/-- An instruction that completes before EBREAK, EBREAK itself, one that raises, and six NOPs. -/
theorem witness_ProgramBufferRun :
    ∀ w ∈ [0x00128293, 0x00100073, 0x00102003, 0x00000013],
      let buf : Vector Word 6 := if w = 0x00000013 then Vector.replicate 6 0x00000013
        else (Vector.replicate 6 0x00100073).set 0 (BitVec.ofNat 32 w)
      let s := { halted with inputs := [.dmiWrite 0x17 0x00040000], dm := { halted.dm with progbuf := buf } }
      let start := { s with inputs := [], dm := { s.dm with command := 0x00040000 } }
      s.inputs = .dmiWrite 0x17 0x00040000 :: [] ∧ s.pb = .none ∧ isShort s.cfg (s.dm.progbuf[0].extractLsb' 0 16) = false ∧
      (s.cfg.dbgEn = true ∧ s.coreReset = false ∧ s.tapReset = false ∧ s.dm.dmactive = true) ∧
      (s.debugMode = true ∧ s.waiting = false ∧ s.dm.busy = false ∧ s.dm.cmderr = 0 ∧ s.dm.haltreq = false) ∧
      (w ≠ 0x00000013 → s.dm.progbuf[1] = 0x00100073) ∧
      (match decodeWindow s.cfg s.dm.progbuf[0] with
       | .ok i => (match exec i start with
         | .next t => !t.waiting && decide (t.pb = if w = 0x00100073 then .ended else if w = 0x00102003 then .exception else .none)
         | _ => false)
       | .error _ => false) = true := by decide

theorem witness_ScuOperations :
    ∀ op ∈ [ScuOp.write, .setBits, .clrBits, .read], ∀ a ∈ [(0 : BitVec 2), 3],
      let s := { State.reset with inputs := [.scu op a 0xF] }
      s.cfg.dbgEn = true ∧ s.pins.pwrup = false ∧ s.inputs = .scu op a 0xF :: [] := by decide

/-- Any IR code and any value scanned, dmistat clear and not. -/
theorem witness_TapScans (ir : BitVec 5) (d : BitVec 41) :
    let s := { State.reset with tap := { Tap.reset with ir := ir }, inputs := [.drScan d] }
    let r := { State.reset with inputs := [.irScan ir] }
    (r.cfg.dbgEn = true ∧ r.coreReset = false ∧ r.tapReset = false ∧ r.inputs = .irScan ir :: []) ∧
    s.cfg.dbgEn = true ∧ s.coreReset = false ∧ s.tapReset = false ∧ s.tap.ir = ir ∧ s.inputs = .drScan d :: [] ∧
    s.tap.dmistat = 0 ∧ ((3 : BitVec 2) ≠ 0) ∧ (0x20000 : BitVec 41).getLsbD 17 = true ∧ (0x10000 : BitVec 41).getLsbD 17 = false ∧
    (0x10000 : BitVec 41).getLsbD 16 = true ∧ (3 : BitVec 41).extractLsb' 0 2 = 3 :=
  have hc : State.reset.coreReset = false := by decide
  have ht : State.reset.tapReset = false := by decide
  ⟨⟨rfl, hc, ht, rfl⟩, rfl, hc, ht, rfl, rfl, rfl, by decide, by decide, by decide, by decide, by decide⟩

/-! ## Single operations -/

/-- The example of rule R101. -/
theorem test_little_endian :
    let s := State.reset.storeBytes 0x00480000 0x11223344 4
    s.byteAt 0x00480000 = 0x44 ∧ s.byteAt 0x00480003 = 0x11 ∧ s.halfAt 0x00480002 = 0x1122 := by decide

/-- The timer interrupt of rule R420's second example, vectored. -/
theorem test_interrupt_vectored :
    let s := { State.reset with
      pc := 0x404
      csr := { State.reset.csr with mstatus := 0x1888, mtvec := 0x1C1, mie := 0x80 } }
    (match step s with | .next t => some (t.pc, t.csr.mepc, t.csr.mcause, t.csr.mstatus) | _ => none) =
      some (0x1DC, 0x404, 0x80000007, 0x1880) := by decide

/-- Registers of the debug side as section A2 of spec/95 lists them. -/
theorem test_debug_registers :
    readDmstatus State.reset = 0x00400C82 ∧
    readDmstatus { State.reset with dm := { Dm.reset with dmactive := true, havereset := true } } = 0x004C0C82 ∧ readAbstractcs State.reset = 0x06000002 ∧ dtmcsCapture State.reset = 0x71 ∧
    (State.reset.enterDebug causeHaltreq 0).dcsr = 0x400000C3 := by decide

/-- A trigger breakpoint under single step: Debug Mode at the handler, with cause 2 (R542, R577). -/
theorem test_step_trigger :
    (match step { State.reset with dcsr := 0x40000007, triggers := [⟨0x20000044, 0x200, false⟩] } with
     | .next t => some (t.debugMode, t.dpc, t.dcsr) | _ => none) = some (true, 0x1C0, 0x40000087) := by decide

/-- Its breakpoint exception is counted by an armed ICOUNT, which then fires at the handler (R542, R579). -/
theorem test_step_trigger_icount :
    (match step { State.reset with dcsr := 0x40000007, triggers := [⟨0x20000044, 0x200, false⟩, ⟨0x30000600, 0, false⟩] } with
     | .next t => some (t.debugMode, t.dpc, t.dcsr, t.csr.mepc, t.triggers.map (·.fired)) | _ => none) =
    some (true, 0x1C0, 0x40000087, 0x1C0, [false, true]) := by decide

/-- Single step, and an ICOUNT that fires, after the last instruction address: refused (R26, D11). -/
theorem test_step_past_top :
    let s := { State.reset with dcsr := 0x40000007, pc := 0xFFFFFFFC }.withFetchWord 32 0x00128293
    let u := { State.reset with triggers := [⟨0x30000600, 0, false⟩], pc := 0xFFFFFFFC }.withFetchWord 32 0x00128293
    ([s, u].map fun s => match step s with | .refused r => some r | _ => none) = [some .pcPastTop, some .pcPastTop] := by decide

/-- Access Register of regno 0x1020 ends with cmderr 2, halted and running (section 1.5 of spec/93). -/
theorem test_regno_unsupported :
    let s := commanded halted 0x00221020
    ([s, { s with debugMode := false }].map fun s => match step s with | .next t => some t.dm.cmderr | _ => none) =
      [some 2, some 2] := by decide

/-- An execute trigger comes before a load trigger of a lower index: MTVAL is the pc (R411, R577). -/
theorem test_trigger_mtval_order :
    (match step ({ onCfg { noM with mtvalEbreakAddr := true } (withRegs [(5, 0x00480000)]) with
        triggers := [⟨0x20000041, 0x00480000, false⟩, ⟨0x20000044, 0x200, false⟩] }.withFetchWord 32 0x0002A303) with
     | .next t => some (t.csr.mcause, t.csr.mtval) | _ => none) = some (3, 0x200) := by decide

/-- A hung access leaves the hart waiting while the timer interrupt stays pending, and a reset frees it (R614, R651). -/
theorem test_hung_load :
    (match step ((onCfg errsHangs (withRegs [(5, 0x70000000)])).withFetchWord 32 0x0002A303) with
     | .next t => (match step { t with inputs := [.resetPin .cpu true] } with
       | .next u => some (t.waiting, t.pc, u.waiting, u.pc)
       | _ => none)
     | _ => none) = some (true, 0x200, false, 0x200) := by decide

end Sys2Proof.Tests
end

section
/-! What the clock does to the state, to the timer and to the IPIC, and the statement on the passing of time (O31). -/
namespace Sys2Proof.Machine

/-! ## The clock of the machine (R43, R551) -/

/-- Only MCYCLE, the timer, the IPIC, the sleep and the step counter can move with time. -/
theorem State.tick_frame (s : State) :
    { s.tick with csr := s.csr, timer := s.timer, ipic := s.ipic, sleeping := s.sleeping, freeCtr := s.freeCtr } = s := by
  unfold State.tick State.wakeUp
  split <;> rfl

/-- Core Reset holds everything but the step counter (R650). -/
theorem State.tick_held {s : State} (h : s.coreReset = true) : s.tick = { s with freeCtr := s.freeCtr + 1 } := by
  simp only [State.tick, h, if_true]

/-- Outside Core Reset the CSRs, the timer and the IPIC advance, each by its own rule. -/
theorem State.tick_free {s : State} (h : s.coreReset = false) :
    s.tick.csr = { s.csr with
      mcycle := if s.countsCycles then s.csr.mcycle + BitVec.ofNat 64 (Config.clocks s.freeCtr) else s.csr.mcycle } ∧
    s.tick.timer =
      s.timer.tick (Config.clocks s.freeCtr) (Config.rtcEdges s.freeCtr) (Config.settlingTicks s.freeCtr) ∧
    s.tick.ipic = if s.cfg.ipicEn then s.ipic.clock s.pins.irqLines else s.ipic := by
  simp [State.tick, h]

/-- MCYCLE counts unless MCOUNTEN exists and its CY is 0 (R43, R45). -/
theorem State.countsCycles_iff (s : State) :
    s.countsCycles = true ↔ hasMcounten s.cfg = false ∨ s.csr.mcounten.getLsbD 0 = true := by
  simp [State.countsCycles]

/-! ## The timer (R440, R443) -/

/-- While it is disabled nothing of the timer moves (R51). -/
theorem Timer.tick_disabled {t : Timer} (h : t.ctrl.getLsbD 0 = false) (clk rtc free : Nat) : t.tick clk rtc free = t := by
  simp only [Timer.tick, h, Bool.false_eq_true, if_false]

/-- While it is enabled CLKSRC chooses the clock whose ticks advance the timer (R51). -/
theorem Timer.tick_enabled {t : Timer} (h : t.ctrl.getLsbD 0 = true) (clk rtc free : Nat) :
    t.tick clk rtc free = t.advance (if t.ctrl.getLsbD 1 then rtc else clk) free := by
  simp only [Timer.tick, h, if_true]

end Sys2Proof.Machine

namespace Sys2Proof

/-! ## The IPIC (R474, R475) -/

/-- The noted line of a vector is the conditioned one of this clock. -/
theorem Ipic.clock_prev (p : Ipic) (lines : BitVec 16) (v : Nat) :
    (p.clock lines).prev.getLsbD v = (lines.getLsbD v != p.inv.getLsbD v) := by
  simp [Ipic.clock, BitVec.getLsbD_xor]

/-- A pending bit after one clock: `im` selects between the conditioned line and the held bit. -/
theorem Ipic.clock_ip {v : Nat} (hv : v < 16) (p : Ipic) (lines : BitVec 16) :
    (p.clock lines).ip.getLsbD v =
      let l := lines.getLsbD v != p.inv.getLsbD v
      if p.im.getLsbD v then p.ip.getLsbD v || (l && !p.prev.getLsbD v) else l := by
  simp only [Ipic.clock, BitVec.getLsbD_or, BitVec.getLsbD_and, BitVec.getLsbD_xor, BitVec.getLsbD_not, hv, decide_true,
    Bool.true_and]
  cases p.im.getLsbD v <;> simp

end Sys2Proof

namespace Sys2Proof.Machine

/-- Settles O31: the clock of the machine with the free numbers of this step, the timer by whole periods, and the IPIC bit
by bit. -/
theorem timePasses : Obligations.TimePasses := by
  refine ⟨fun s => ⟨s.tick_frame, fun h => ?held, fun h => ?free⟩, fun t clk rtc free => ⟨fun h => ?off, fun h => ?on⟩,
    fun p lines v hv => ?ipic⟩
  case held => rw [State.tick_held h]; exact ⟨rfl, rfl, rfl, rfl⟩
  case free =>
    obtain ⟨hcsr, htimer, hipic⟩ := State.tick_free h
    refine ⟨Config.clocks s.freeCtr, Config.rtcEdges s.freeCtr, Config.settlingTicks s.freeCtr, ?_, fun hm hc => ?_,
      fun hc => ?_, htimer, hipic⟩
    · rw [hcsr]
    · have stands : ¬ s.countsCycles = true := by
        simp only [State.countsCycles_iff, hm, hc, Bool.true_eq_false, Bool.false_eq_true, or_self, not_false_iff]
      rw [hcsr, if_neg stands]
    · rw [hcsr, if_pos (s.countsCycles_iff.2 hc)]
  case off => exact Timer.tick_disabled h clk rtc free
  case on =>
    dsimp only
    rw [Timer.tick_enabled h, ← Nat.min_def]
    obtain ⟨j, k, hj, hperiods, hpos, hadvance⟩ := t.advance_spec (if t.ctrl.getLsbD 1 then rtc else clk) free
    exact ⟨j, k, hj, by rw [hadvance], hperiods, hpos, by rw [hadvance], by rw [hadvance], by rw [hadvance],
      by rw [hadvance]⟩
  case ipic =>
    refine ⟨fun h => ?_, fun h => ?_, p.clock_prev lines v, rfl, rfl, rfl, rfl, rfl⟩
    · rw [Ipic.clock_ip hv]; exact if_neg (by simp [h])
    · rw [Ipic.clock_ip hv]; exact if_pos h

end Sys2Proof.Machine
end

section
/-! What every instruction's meaning is made of, and what it leaves of the Debug Module (R539, R552, R561). -/
namespace Sys2Proof.Machine

/-! ## The shapes of a meaning -/

/-- The shared operations that an instruction's answer can be. -/
inductive ExecShape (s : State) : Result → Prop where
  | writeBack (rd : Reg) (v : Word) (len : Nat) : ExecShape s (writeBack s rd v len)
  | jump (rd : Reg) (len : Nat) (target : Word) : ExecShape s (jumpTo s rd len target)
  | branch (c : Bool) (off : Word) (len : Nat) : ExecShape s (branchIf s c off len)
  | load (rd : Reg) (a : Word) (n : Nat) (ext : Word → Word) (len : Nat) : ExecShape s (loadTo s rd a n ext len)
  | store (a : Word) (n : Nat) (v : Word) (len : Nat) : ExecShape s (storeTo s a n v len)
  | nop (len : Nat) : ExecShape s (.next (s.retire len))
  | fenceI (len : Nat) : ExecShape s (.next (s.flushFetch.retire len))
  | wfi (len : Nat) : ExecShape s (.next ((waitForInterrupt s).retire len))
  | exception (e : Exc) (tval : Word) : ExecShape s (raise s e tval)
  | breakpoint : ExecShape s (breakpoint s)
  | trapReturn : ExecShape s s.trapReturn
  | csr (instr : Word) (rd : Reg) (a : BitVec 12) (writes plain : Bool) (new : Word → Word) :
      ExecShape s (csrInstr s instr rd a writes plain new)
  | refused (r : Refusal) : ExecShape s (.refused r)

/-- A meaning that the Program Buffer does not have is refused there. -/
theorem ExecShape.unlessDebug {s : State} {r : Result} (h : ExecShape s r) (why : Refusal) :
    ExecShape s (if s.debugMode then .refused why else r) := by
  split
  · exact .refused why
  · exact h

/-- Every instruction is one of the shared operations. -/
theorem exec_shape (i : Instr) (s : State) : ExecShape s (exec i s) := by
  cases i with
  | lui | addi | slti | sltiu | xori | ori | andi | slli | srli | srai | add | sub | sll | slt | sltu | xor | srl | sra | or | and
  | mul | mulh | mulhsu | mulhu | div | divu | rem | remu
  | cAddi4spn | cAddi | cLi | cAddi16sp | cLui | cSrli | cSrai | cAndi | cSub | cXor | cOr | cAnd | cSlli | cMv | cAdd =>
    exact .writeBack _ _ _
  | auipc => exact (ExecShape.writeBack _ _ _).unlessDebug _
  | jal | jalr | cJal | cJ | cJr | cJalr => exact .jump _ _ _
  | beq | bne | blt | bge | bltu | bgeu | cBeqz | cBnez => exact .branch _ _ _
  | lb | lh | lw | lbu | lhu | cLw | cLwsp => exact .load _ _ _ _ _
  | sb | sh | sw | cSw | cSwsp => exact .store _ _ _ _
  | fence | cNop => exact .nop _
  | fenceI => exact .fenceI _
  | wfi => exact .wfi _
  | ecall => exact (ExecShape.exception _ _).unlessDebug _
  | cIllegal => exact .exception _ _
  | ebreak | cEbreak => exact .breakpoint
  | mret => exact ExecShape.trapReturn.unlessDebug _
  | csrrw | csrrs | csrrc | csrrwi | csrrsi | csrrci => unfold exec; exact .csr _ _ _ _ _ _

/-! ## What an instruction leaves of the Debug Module -/

/-- Where `r` goes on, the Debug Module is as in `s`, but for the cell of DATA0, which is CSR DSCRATCH0 (R561). -/
structure LeavesDm (s : State) (r : Result) : Prop where
  dm : ∀ t, r = .next t → t.dm = { s.dm with data0 := t.dm.data0 }

theorem leavesDm_next {s t : State} (h : t.dm = s.dm) : LeavesDm s (.next t) := by
  refine ⟨?_⟩
  rintro _ ⟨⟩
  rw [h]

theorem leavesDm_refused (s : State) (r : Refusal) : LeavesDm s (.refused r) := ⟨fun _ h => by cases h⟩

theorem raise_leavesDm (s : State) (e : Exc) (tval : Word) : LeavesDm s (raise s e tval) := by
  unfold raise
  split
  · exact leavesDm_next rfl
  · exact leavesDm_next (State.takeTrap_dm ..)

theorem jumpTo_leavesDm (s : State) (rd : Reg) (len : Nat) (target : Word) : LeavesDm s (jumpTo s rd len target) := by
  refine ⟨fun t h => ?_⟩
  obtain ⟨-, ⟨-, rfl⟩ | ⟨-, rfl⟩⟩ := jumpTo_cases h
  · rw [State.takeTrap_dm]
  · simp only [State.setReg_dm, State.countInstr_dm]

theorem branchIf_leavesDm (s : State) (c : Bool) (off : Word) (len : Nat) : LeavesDm s (branchIf s c off len) := by
  cases c
  · exact leavesDm_next (State.retire_dm ..)
  · exact jumpTo_leavesDm ..

theorem writeBack_leavesDm (s : State) (rd : Reg) (v : Word) (len : Nat) : LeavesDm s (writeBack s rd v len) :=
  leavesDm_next (by simp)

theorem loadTo_leavesDm (s : State) (rd : Reg) (a : Word) (n : Nat) (ext : Word → Word) (len : Nat) :
    LeavesDm s (loadTo s rd a n ext len) := by
  unfold loadTo
  split
  · exact writeBack_leavesDm ..
  · exact raise_leavesDm ..
  · exact leavesDm_refused ..
  · exact leavesDm_next (State.wait_dm s)

/-- A store that goes on changes the timer or memory. -/
theorem memWrite_dm {s t : State} {a : Word} {n : Nat} {v : Word} (h : memWrite s a n v = .ok t) : t.dm = s.dm := by
  obtain ⟨-, ⟨-, -, tm, -, rfl⟩ | ⟨-, rfl⟩⟩ := memWrite_ok h
  · rfl
  · rw [State.store_eq]

theorem storeTo_leavesDm (s : State) (a : Word) (n : Nat) (v : Word) (len : Nat) : LeavesDm s (storeTo s a n v len) := by
  unfold storeTo
  split
  · next hw => exact leavesDm_next (by rw [State.retire_dm, memWrite_dm hw])
  · exact raise_leavesDm ..
  · exact leavesDm_refused ..
  · exact leavesDm_next (State.wait_dm s)

theorem breakpoint_leavesDm (s : State) : LeavesDm s (breakpoint s) := by
  unfold breakpoint
  split
  · exact leavesDm_next rfl
  · split
    · exact leavesDm_next (State.enterDebug_dm ..)
    · exact raise_leavesDm ..

theorem trapReturn_leavesDm (s : State) : LeavesDm s s.trapReturn := by
  unfold State.trapReturn
  dsimp only
  split
  · exact leavesDm_refused ..
  · exact leavesDm_next rfl

theorem waitForInterrupt_dm (s : State) : (waitForInterrupt s).dm = s.dm := by
  unfold waitForInterrupt
  split <;> rfl

/-- Of the CSRs only DSCRATCH0 lies in the Debug Module. -/
theorem csrWrite_leavesDm (s : State) (a : BitVec 12) (v : Word) : LeavesDm s (csrWrite s a v) := by
  unfold csrWrite
  split
  case h_3 =>
    unfold writeMtvec
    split
    · exact leavesDm_refused ..
    · exact leavesDm_next rfl
  case h_12 =>
    unfold writeTselect
    split <;> exact leavesDm_next rfl
  case h_13 =>
    refine ⟨fun t h => ?_⟩
    obtain rfl | ⟨y, rfl⟩ := writeTdata1_cases h <;> rfl
  case h_14 =>
    unfold writeTdata2
    split
    · exact leavesDm_next rfl
    · split <;> exact leavesDm_next rfl
  case h_17 => refine ⟨?_⟩; rintro _ ⟨⟩; rfl
  all_goals exact leavesDm_next rfl

theorem countCsr_dm (s0 s : State) (a : BitVec 12) (writes : Bool) : (State.countCsr s0 s a writes).dm = s.dm := by
  unfold State.countCsr
  split <;> rfl

theorem csrInstr_leavesDm (s : State) (instr : Word) (rd : Reg) (a : BitVec 12) (writes plain : Bool)
    (new : Word → Word) : LeavesDm s (csrInstr s instr rd a writes plain new) := by
  refine ⟨fun t h => ?_⟩
  obtain ⟨-, hraise⟩ | ⟨-, -, s', hwritten, rfl⟩ := csrInstr_cases h
  · exact (raise_leavesDm s _ _).dm t hraise
  · rw [State.advance_dm, State.setReg_dm, countCsr_dm]
    cases writes
    · exact (leavesDm_next rfl).dm s' hwritten
    · exact (csrWrite_leavesDm s a _).dm s' hwritten

/-- No shared operation changes anything of the Debug Module but the cell of DSCRATCH0. -/
theorem ExecShape.leavesDm {s : State} {r : Result} (h : ExecShape s r) : LeavesDm s r := by
  cases h with
  | writeBack rd v len => exact writeBack_leavesDm ..
  | jump rd len target => exact jumpTo_leavesDm ..
  | branch c off len => exact branchIf_leavesDm ..
  | load rd a n ext len => exact loadTo_leavesDm ..
  | store a n v len => exact storeTo_leavesDm ..
  | nop len => exact leavesDm_next (by simp)
  | fenceI len => exact leavesDm_next (by simp)
  | wfi len => exact leavesDm_next (by rw [State.retire_dm, waitForInterrupt_dm])
  | exception e tval => exact raise_leavesDm ..
  | breakpoint => exact breakpoint_leavesDm s
  | trapReturn => exact trapReturn_leavesDm s
  | csr instr rd a writes plain new => exact csrInstr_leavesDm ..
  | refused r => exact leavesDm_refused s r

/-- An instruction neither raises nor drops a halt request. -/
theorem exec_haltreq {i : Instr} {s t : State} (h : exec i s = .next t) : t.dm.haltreq = s.dm.haltreq := by
  rw [(exec_shape i s).leavesDm.dm t h]

end Sys2Proof.Machine
end

section
/-! The fetch of an instruction that decodes, the boundary at which the hart runs it, and a trigger that fires before it
(R113, R413, R540, R576, R577). -/
namespace Sys2Proof

/-! ## The window of a fetched instruction (R101, R113) -/

theorem half_setWidth (b0 b1 : Byte) : (half b0 b1).setWidth 32 = word4 b0 b1 0 0 := by
  apply BitVec.eq_of_toNat_eq
  simp only [half, word4, BitVec.toNat_setWidth, BitVec.ofNat_eq_ofNat, BitVec.toNat_ofNat]
  omega

theorem halves_word (b0 b1 b2 b3 : Byte) :
    BitVec.ofNat 32 ((half b0 b1).toNat + 65536 * (half b2 b3).toNat) = word4 b0 b1 b2 b3 := by
  apply BitVec.eq_of_toNat_eq
  simp only [half, word4, BitVec.toNat_ofNat]
  omega

/-- Four bytes decode as a short window of the first two, or as the window of all of them. -/
theorem decode_four {cfg : Config} {b0 b1 b2 b3 : Byte} {i : Instr} {rest : List Byte}
    (h : decode cfg [b0, b1, b2, b3] = .ok (i, rest)) :
    (isShort cfg (half b0 b1) = true ∧ decodeWindow cfg (word4 b0 b1 0 0) = .ok i) ∨
    (isShort cfg (half b0 b1) = false ∧ decodeWindow cfg (word4 b0 b1 b2 b3) = .ok i) := by
  cases hs : isShort cfg (half b0 b1) with
  | true =>
    simp only [decode, hs, if_true] at h
    split at h
    · next hi => cases h; exact .inl ⟨rfl, hi⟩
    · cases h
  | false =>
    simp only [decode, hs, Bool.false_eq_true, if_false] at h
    split at h
    · next hi => cases h; exact .inr ⟨rfl, hi⟩
    · cases h

end Sys2Proof

namespace Sys2Proof.Machine

/-- The fetch sees memory where the queue holds no older copy (R125). -/
theorem fetchByte_fresh {s : State} (h : s.stale = []) (a : Word) : fetchByte s a = s.byteAt a := by
  simp only [fetchByte, staleCopies, h, List.filter_nil, List.map_nil]

/-- Where the bytes at pc decode, the fetch answers a window of the same instruction (R113). -/
theorem fetch_of_decode {s : State} {i : Instr} {rest : List Byte} (first : fetchStatus s.cfg s.pc = .ok)
    (second : fetchStatus s.cfg (s.pc + 2) = .ok) (top : s.pc ≠ 0xFFFFFFFE)
    (h : decode s.cfg [fetchByte s s.pc, fetchByte s (s.pc + 1), fetchByte s (s.pc + 2), fetchByte s (s.pc + 3)] =
      .ok (i, rest)) :
    ∃ w, fetch s = .window w ∧ decodeWindow s.cfg w = .ok i := by
  have next : s.pc + 2 + 1 = s.pc + 3 := by rw [BitVec.add_assoc]; rfl
  obtain ⟨short, hi⟩ | ⟨long, hi⟩ := decode_four h
  · exact ⟨_, by simp only [fetch, first, fetchHalf, short, if_true, half_setWidth], hi⟩
  · refine ⟨_, ?_, hi⟩
    simp only [fetch, first, second, fetchHalf, long, next, top, halves_word, Bool.false_eq_true, if_false]
    split <;> rfl

theorem State.Fetchable.fetch {s : State} (hs : s.Fetchable) {i : Instr} {rest : List Byte}
    (h : decode s.cfg s.fetchBytes = .ok (i, rest)) :
    ∃ w, Machine.fetch s = .window w ∧ decodeWindow s.cfg w = .ok i :=
  fetch_of_decode hs.first hs.second hs.top (by simpa only [fetchByte_fresh hs.fresh, State.fetchBytes] using h)

/-- With no trigger enabled the instruction at pc is executed (R163, R411). -/
theorem runInstr_decoded {s : State} {i : Instr} {rest : List Byte} (ht : ∀ x ∈ s.triggers, x.disabled = true)
    (hs : s.Fetchable) (h : decode s.cfg s.fetchBytes = .ok (i, rest)) : runInstr s = exec i s := by
  obtain ⟨w, hw, hi⟩ := hs.fetch h
  simp only [runInstr, checkTriggers_disabled ht, hw, runWindow, hi]

/-! ## The boundary (R413, R415, R540) -/

/-- A single step with stepie clear takes no interrupt (R542). -/
theorem pendingInterrupt_stepped {s : State} (hs : s.stepping = true) (hi : s.dcsr.getLsbD 11 = false) :
    pendingInterrupt s = none := by
  have masked : s.stepMasks = true := by simp only [State.stepMasks, hs, hi, Bool.not_false, Bool.and_self]
  simp only [pendingInterrupt, masked, Bool.not_true, Bool.and_false, Bool.false_eq_true, if_false]

/-- A running hart that is awake, with no halt request and no interrupt to take, runs the instruction at pc. -/
theorem step_runOne {s : State} (inputs : s.inputs = []) (noReset : s.coreReset = false) (running : s.debugMode = false)
    (noWait : s.waiting = false) (inRange : s.seqWrap = false) (noHalt : s.dm.haltreq = false)
    (awake : s.sleeping = false) (noInterrupt : pendingInterrupt s = none) : step s = tickResult (runOne s) := by
  have same : { s with sleeping := false } = s := by rw [← awake]
  have runs : hartStep s = runOne s := by
    unfold hartStep
    rw [if_neg (by simp [noReset, running, noWait]), if_neg (by simp [inRange]), if_neg (by simp [haltsNow, noHalt]),
      noInterrupt]
    dsimp only
    rw [if_neg (by simp [awake]), same]
  simp only [step, inputs, runs]

/-- Where no ICOUNT counts, only single step follows an instruction that ends inside the address space (R542). -/
theorem runOne_noIcount {s t : State} (hr : runInstr s = .next t) (hi : icountActive s = none) (hw : t.waiting = false)
    (hp : t.seqWrap = false) : runOne s = .next (afterStep (addressFires s) s t) := by
  have quiet : icountFires s t = false := by simp only [icountFires, hi, Bool.and_false]
  have goesOn : afterIcount s t = .next t := by simp only [afterIcount, hi, ite_self]
  simp only [runOne, hr, hw, leavesPastTop_inside hp, goesOn, quiet, Bool.or_false, Bool.false_eq_true, if_false]

/-! ## A trigger that fires alone (R576, R577) -/

/-- An address trigger that matches and is not chained fires; disabled ones after it do nothing. -/
theorem checkTriggers_head {s : State} {x : Trigger} {xs : List Trigger} {d : DataAccess} (ht : s.triggers = x :: xs)
    (hxs : ∀ y ∈ xs, y.disabled = true) (hx : x.condition s.pc d = true) (hc : x.chain = false) :
    checkTriggers s d = ({ s with triggers := x.setHit :: xs },
      fireAction { s with triggers := x.setHit :: xs } [x]) := by
  have hm : matchChain s.pc d true (x :: xs) = true :: List.replicate xs.length false := by
    simp only [matchChain, hx, hc, Bool.and_self, Bool.false_eq_true, if_false, matchChain_disabled hxs]
  have hhits : setHits (x :: xs) (true :: List.replicate xs.length false) = x.setHit :: xs :=
    congrArg (x.setHit :: ·) (setHits_none xs)
  have hfire : firing (x :: xs) (true :: List.replicate xs.length false) = [x] := by
    have hnone := firing_none xs
    unfold firing at hnone ⊢
    simp only [List.zip_cons_cons, List.filter_cons, hc, Bool.not_false, Bool.and_self, if_true, List.map_cons, hnone]
  simp only [checkTriggers, ht, hm, hhits, hfire]

/-- The hit bit of an address trigger (R572). -/
theorem setHit_mcontrol {x : Trigger} (h : x.isMcontrol = true) :
    x.setHit = { x with tdata1 := x.tdata1 ||| 0x00100000 } := by
  simp only [Trigger.setHit, h, if_true]

/-- An address trigger does not count. -/
theorem isIcount_mcontrol {x : Trigger} (h : x.isMcontrol = true) : x.isIcount = false := by
  have htype : x.type = 2 := by simpa only [Trigger.isMcontrol, beq_iff_eq] using h
  simp only [Trigger.isIcount, htype]
  rfl

/-- An address trigger before disabled ones leaves no ICOUNT that counts. -/
theorem icountActive_head {s : State} {x : Trigger} {xs : List Trigger} (ht : s.triggers = x :: xs)
    (hxs : ∀ y ∈ xs, y.disabled = true) (hx : x.isMcontrol = true) : icountActive s = none := by
  have tail : icountActive { s with triggers := xs } = none := icountActive_disabled hxs
  unfold icountActive at tail ⊢
  rw [ht, List.find?_cons_of_neg (by simp [isIcount_mcontrol hx])]
  exact tail

/-- An execute trigger with action 0 on the pc takes its breakpoint trap, about the pc (R577, D8). -/
theorem checkTriggers_execute {s : State} {x : Trigger} {xs : List Trigger} (ht : s.triggers = x :: xs)
    (hxs : ∀ y ∈ xs, y.disabled = true) (hx : x.isMcontrol = true) (hm : x.mcontrolM = true) (hc : x.chain = false)
    (he : x.execute = true) (hpc : x.tdata2 = s.pc) (ha : x.tdata1.getLsbD 12 = false) (d : DataAccess) :
    (checkTriggers s d).2 =
      some (triggerTrap { s with triggers := { x with tdata1 := x.tdata1 ||| 0x00100000 } :: xs } s.pc) := by
  have fires : x.condition s.pc d = true := by simp [Trigger.condition, hx, hm, he, hpc]
  have traps : x.toDebug = false := by simp only [Trigger.toDebug, hx, if_true, ha]
  rw [checkTriggers_head ht hxs fires hc, setHit_mcontrol hx]
  simp [fireAction, traps, matchedAddress, he, hpc]

/-- What the firing triggers do stands for the instruction (R577). -/
theorem runInstr_fires {s u : State} (h : (checkTriggers s (upcomingAccess s)).2 = some u) :
    runInstr s = .next u ∧ addressFires s = true := by
  constructor
  · unfold runInstr
    rcases hc : checkTriggers s (upcomingAccess s) with ⟨s', action⟩
    rw [hc] at h
    obtain rfl : action = some u := h
    rfl
  · simp only [addressFires, h, Option.isSome_some]

/-! ## Single step (R542) -/

/-- The step that DCSR.step asks for runs the instruction at pc, and where that and its trap have ended inside the address
space and outside Debug Mode, Debug Mode is entered; no ICOUNT counts. -/
theorem runOne_stepped {s t : State} (hs : s.stepping = true) (hr : runInstr s = .next t) (hi : icountActive s = none)
    (hw : t.waiting = false) (hp : t.seqWrap = false) (hd : t.debugMode = false) :
    ∃ u, runOne s = .next u ∧ EntersDebug t u (stepCause (addressFires s) t) t.pc :=
  ⟨_, runOne_noIcount hr hi hw hp, afterStep_enters hs hd _⟩

/-- Settles O50: a stepped hart runs one instruction, which leaves the halt request clear, so that the cause is 4; an
execute trigger that fires on it makes the cause 2. -/
theorem singleStepReentersDebugMode : Obligations.SingleStepReentersDebugMode := by
  intro s inputs noReset running noWait inRange noHalt awake stepping noStepie
  have hstep : step s = tickResult (runOne s) :=
    step_runOne inputs noReset running noWait inRange noHalt awake (pendingInterrupt_stepped stepping noStepie)
  refine ⟨fun t i rest disabled fetchable decoded executed outside noHang => ⟨fun inside => ?entered, fun pastTop => ?refused⟩,
    fun x xs ht hxs hx hm hc he hpc ha => ?trigger⟩
  case entered =>
    have hr : runInstr s = .next t := (runInstr_decoded disabled fetchable decoded).trans executed
    obtain ⟨u, hu, entered⟩ := runOne_stepped stepping hr (icountActive_disabled disabled) noHang inside outside
    have cause : stepCause (addressFires s) t = 4 := by
      simp [stepCause, addressFires_disabled disabled, exec_haltreq executed, noHalt, causeStep]
    exact ⟨u, by rw [hstep, hu, tickResult], cause ▸ entered⟩
  case refused =>
    have hr : runInstr s = .next t := (runInstr_decoded disabled fetchable decoded).trans executed
    rw [hstep, runOne_step_pastTop hr noHang pastTop stepping, tickResult]
  case trigger =>
    obtain ⟨hr, fires⟩ := runInstr_fires (checkTriggers_execute ht hxs hx hm hc he hpc ha (upcomingAccess s))
    obtain ⟨u, hu, entered⟩ := runOne_stepped stepping hr (icountActive_head ht hxs hx) noWait rfl running
    rw [fires] at entered
    exact ⟨_, u, by rw [hstep, hu, tickResult], takeTrap_traps _ false 3 _, entered⟩

end Sys2Proof.Machine
end

section
/-! The aligned word that the instruction side reads whole, and what a store notes of it (R105, R113, R125, D21; log 10). -/
namespace Sys2Proof.Machine

/-! ## The aligned word that holds an address (R105) -/

/-- The low two bits cleared. -/
theorem wordBase_toNat (a : Word) : (wordBase a).toNat = a.toNat / 4 * 4 := by
  have cleared : wordBase a = a >>> 2 <<< 2 := by
    have mask : ∀ k : Nat, k < 32 → (0xFFFFFFFC : Word).getLsbD k = decide (2 ≤ k) := by decide
    ext k hk
    rw [wordBase, BitVec.getElem_and, ← BitVec.getLsbD_eq_getElem, ← BitVec.getLsbD_eq_getElem, mask k hk]
    by_cases low : k < 2
    · simp [low]
    · simp [low, hk, Nat.add_sub_cancel' (Nat.le_of_not_lt low), Nat.le_of_not_lt low]
  rw [cleared, BitVec.toNat_shiftLeft, BitVec.toNat_ushiftRight, Nat.shiftLeft_eq, Nat.shiftRight_eq_div_pow]
  have := a.isLt
  omega

theorem wordBase_add_offset (a : Word) : wordBase a + BitVec.ofNat 32 (a.toNat % 4) = a := by
  apply BitVec.eq_of_toNat_eq
  rw [BitVec.toNat_add, wordBase_toNat, BitVec.toNat_ofNat]
  have := a.isLt
  omega

/-- An aligned address as a number. -/
theorem toNat_mod_of_aligned {a : Word} (ha : a &&& 3 = 0) : a.toNat % 4 = 0 := by
  have low : a.toNat &&& (2 ^ 2 - 1) = 0 := congrArg BitVec.toNat ha
  rwa [Nat.and_two_pow_sub_one_eq_mod] at low

/-- The four bytes of an aligned word lie in that word, in their order. -/
theorem wordBase_of_aligned {a : Word} (ha : a &&& 3 = 0) {k : Nat} (hk : k < 4) :
    wordBase (a + BitVec.ofNat 32 k) = a ∧ (a + BitVec.ofNat 32 k).toNat % 4 = k := by
  have aligned := toNat_mod_of_aligned ha
  have := a.isLt
  have sum : (a + BitVec.ofNat 32 k).toNat = a.toNat + k := by
    rw [BitVec.toNat_add, BitVec.toNat_ofNat]
    omega
  refine ⟨BitVec.eq_of_toNat_eq ?_, by omega⟩
  rw [wordBase_toNat, sum]
  omega

/-! ## Its bytes (R101) -/

theorem toNat_append_byte {n : Nat} (x : BitVec n) (b : Byte) : (x ++ b).toNat = 256 * x.toNat + b.toNat := by
  rw [BitVec.toNat_append, ← Nat.shiftLeft_add_eq_or_of_lt b.isLt, Nat.shiftLeft_eq, Nat.mul_comm]

theorem State.wordAt_eq_bytesAt (s : State) (a : Word) : s.wordAt a = BitVec.ofNat 32 (s.bytesAt a 4) := by
  have second : a + 1 + 1 = a + 2 := by rw [BitVec.add_assoc]; rfl
  have third : a + 2 + 1 = a + 3 := by rw [BitVec.add_assoc]; rfl
  apply BitVec.eq_of_toNat_eq
  simp only [State.wordAt, State.bytesAt, State.byteAt, second, third, toNat_append_byte, BitVec.toNat_ofNat]
  omega

/-- The word of the fetch queue is the word of memory. -/
theorem State.wordHolding_eq (s : State) (a : Word) : s.wordHolding a = s.wordAt (wordBase a) :=
  (s.wordAt_eq_bytesAt (wordBase a)).symm

/-- Byte `k` of a word in memory. -/
theorem State.byteOf_wordAt (s : State) (a : Word) {k : Nat} (hk : k < 4) :
    byteOf (s.wordAt a) k = s.byteAt (a + BitVec.ofNat 32 k) := by
  have byte (b0 b1 b2 b3 : Byte) : byteOf (b3 ++ b2 ++ b1 ++ b0) k = [b0, b1, b2, b3][k] := by
    apply BitVec.eq_of_toNat_eq
    rw [byteOf, toNat_extract]
    match k, hk with
    | 0, _ | 1, _ | 2, _ | 3, _ =>
      simp only [toNat_append_byte, List.getElem_cons_zero, List.getElem_cons_succ]
      omega
  rw [State.wordAt, byte]
  match k, hk with
  | 0, _ => rw [BitVec.add_zero]; rfl
  | 1, _ | 2, _ | 3, _ => rfl

theorem State.wordAt_congr {s t : State} (h : t.mem = s.mem) (a : Word) : t.wordAt a = s.wordAt a := by
  simp only [State.wordAt, State.byteAt, h]

/-! ## What the fetch sees of it (R125, D21) -/

/-- The aligned word at `a` as the fetch sees it in this step: memory's, or one of the old copies. -/
def fetchedWord (s : State) (a : Word) : Word :=
  let seen := s.wordAt a :: staleCopies s a
  (seen[Config.staleChoice s.freeCtr a.toNat % seen.length]?).getD (s.wordAt a)

/-- Every byte is fetched out of the word that holds it. -/
theorem fetchByte_eq (s : State) (a : Word) : fetchByte s a = byteOf (fetchedWord s (wordBase a)) (a.toNat % 4) := by
  unfold fetchByte fetchedWord
  split
  · next fresh =>
    simp only [fresh, List.length_singleton, Nat.mod_one, List.getElem?_cons_zero, Option.getD_some]
    rw [s.byteOf_wordAt _ (Nat.mod_lt _ (by decide)), wordBase_add_offset]
  · rw [s.wordHolding_eq]; rfl

theorem mem_staleCopies {s : State} {a w : Word} : w ∈ staleCopies s a ↔ (a.toNat, w) ∈ s.stale := by
  simp [staleCopies]

theorem fetchedWord_old_or_new (s : State) (a : Word) :
    fetchedWord s a = s.wordAt a ∨ (a.toNat, fetchedWord s a) ∈ s.stale := by
  rw [← mem_staleCopies, ← List.mem_cons]
  unfold fetchedWord
  dsimp only
  rw [List.getElem?_eq_getElem (Nat.mod_lt _ (List.length_pos_of_ne_nil (List.cons_ne_nil _ _))), Option.getD_some]
  exact List.getElem_mem _

/-! ## What a store notes of it (R125) -/

theorem mem_noteStale {l : List (Nat × Word)} {a : Nat} {old new : Word} {c : Nat × Word} :
    c ∈ noteStale l a old new ↔ c ∈ l ∨ (c = (a, old) ∧ new ≠ old) := by
  unfold noteStale
  split
  · next nothing =>
    constructor
    · exact .inl
    · rintro (kept | ⟨rfl, changed⟩)
      · exact kept
      · exact nothing.resolve_left changed.symm
  · next note =>
    have changed : new ≠ old := fun e => note (.inl e.symm)
    rw [List.mem_cons, or_comm, and_iff_left changed]

/-- A store to RAM notes the word that holds its address, as it was, where it changes that word, and notes nothing else. -/
theorem storeTo_notes {s : State} {a : Word} {n : Nat} (h : RamAt s true a n) (v : Word) (len : Nat) :
    ∃ t, storeTo s a n v len = .next t ∧
      ∀ c, c ∈ t.stale ↔ c ∈ s.stale ∨ (c = ((wordBase a).toNat, s.wordAt (wordBase a)) ∧
        t.wordAt (wordBase a) ≠ s.wordAt (wordBase a)) := by
  refine ⟨_, by rw [storeTo, memWrite_ram h], fun c => ?_⟩
  rw [State.retire_stale, State.wordAt_congr (State.retire_mem ..), State.wordAt_congr (State.store_mem ..), State.store,
    mem_noteStale, State.wordHolding_eq, State.wordHolding_eq]

/-! ## The compressed store addresses (R150, R151) -/

theorem regC_eq_append (r : RegC) : regC r = 1#2 ++ r := by revert r; decide

theorem immClw_eq_append (imm : BitVec 5) : immClw imm = (imm ++ 0#2).setWidth 32 := by revert imm; decide

theorem immCsp_eq_append (imm : BitVec 6) : immCsp imm = (imm ++ 0#2).setWidth 32 := by revert imm; decide

theorem State.effAddrC_eq (s : State) (r : RegC) (imm : BitVec 5) :
    s.effAddrC r imm = s.getReg (1#2 ++ r) + (imm ++ 0#2).setWidth 32 := by
  rw [State.effAddrC, regC_eq_append, immClw_eq_append]

theorem State.effAddrSp_eq (s : State) (imm : BitVec 6) :
    s.effAddrSp imm = s.getReg 2 + (imm ++ 0#2).setWidth 32 := by
  rw [State.effAddrSp, immCsp_eq_append, spReg]

end Sys2Proof.Machine
end

section
/-! A fetch without FENCE.I: the instruction that a ready hart executes, and the words it is made of (R113, R125, D21). -/
namespace Sys2Proof.Machine

/-- With no trigger enabled and no single step nothing precedes or follows the instruction at pc (R542, R576, R579). -/
theorem runOne_alone {s : State} (ht : ∀ x ∈ s.triggers, x.disabled = true) (hs : s.stepping = false) :
    runOne s = runInstr s := by
  unfold runOne
  split
  · next t ran =>
    have goesOn : afterIcount s t = .next t := by simp only [afterIcount, icountActive_disabled ht, ite_self]
    simp only [leavesPastTop_disabled ht hs, goesOn, afterStep_free hs, Bool.false_eq_true, if_false, ite_self, ran]
  · next h => exact h.symm
  · next h => exact h.symm

/-- With no trigger enabled the instruction in the fetched window is executed (R163, R411). -/
theorem runInstr_fetched {s : State} {w : Word} {i : Instr} (ht : ∀ x ∈ s.triggers, x.disabled = true)
    (hw : fetch s = .window w) (hi : decodeWindow s.cfg w = .ok i) : runInstr s = exec i s := by
  simp only [runInstr, checkTriggers_disabled ht, hw, runWindow, hi]

/-- A ready hart executes the instruction in the window it fetches. -/
theorem State.Ready.step_fetched {s : State} (hs : s.Ready) {w : Word} {i : Instr} (hw : Machine.fetch s = .window w)
    (hi : decodeWindow s.cfg w = .ok i) : step s = tickResult (exec i s) := by
  rw [step_runOne hs.inputs hs.noReset hs.running hs.noWait hs.inRange hs.noHalt hs.awake
    (pendingInterrupt_none hs.noInterrupt), runOne_alone hs.noTrigger hs.noStep, runInstr_fetched hs.noTrigger hw hi]

/-- Settles O34: each byte comes out of its fetched word, the step executes the window of the bytes so fetched, and every
store form notes through the one store operation. -/
theorem fetchSeesOldOrNewWord : Obligations.FetchSeesOldOrNewWord := by
  refine ⟨fun s a ha => ⟨fetchedWord s a, fetchedWord_old_or_new s a, fun k => ?byte⟩,
    fun s i rest ready first second top decoded => ?executes, fun s rs1 rs2 rs1c rs2c imm u5 u6 => ?notes⟩
  case byte =>
    obtain ⟨base, offset⟩ := wordBase_of_aligned ha k.isLt
    rw [fetchByte_eq, base, offset, byteOf]
  case executes =>
    obtain ⟨w, hw, hi⟩ := fetch_of_decode first second top decoded
    exact ready.step_fetched hw hi
  case notes =>
    refine ⟨fun h => storeTo_notes h _ 4, fun h => storeTo_notes h _ 4, fun h => storeTo_notes h _ 4, fun h => ?cSw,
      fun h => ?cSwsp⟩
    case cSw =>
      rw [← s.effAddrC_eq] at h ⊢
      exact storeTo_notes h _ 2
    case cSwsp =>
      rw [← s.effAddrSp_eq] at h ⊢
      exact storeTo_notes h _ 2

end Sys2Proof.Machine
end

section
/-! RV32I computation: what the comparisons and the shifts give, and the statements on the immediate and the register forms
(O1, O2). -/
namespace Sys2Proof.Machine

/-! ## The value of a comparison (R204, R205, R215, R216) -/

theorem boolWord_ltSigned (a b : Word) : boolWord (ltSigned a b) = if a.toInt < b.toInt then 1 else 0 := by
  simp only [boolWord, ltSigned, decide_eq_true_eq]

theorem boolWord_ltUnsigned (a b : Word) : boolWord (ltUnsigned a b) = if a.toNat < b.toNat then 1 else 0 := by
  simp only [boolWord, ltUnsigned, decide_eq_true_eq]

/-- Sign extension keeps the signed value of an I-immediate (R143). -/
theorem toInt_sext12 (imm : BitVec 12) : (sext12 imm).toInt = imm.toInt :=
  BitVec.toInt_signExtend_of_le (by decide)

theorem boolWord_ltSigned_sext12 (a : Word) (imm : BitVec 12) :
    boolWord (ltSigned a (sext12 imm)) = if a.toInt < imm.toInt then 1 else 0 := by
  rw [boolWord_ltSigned, toInt_sext12]

/-! ## The amount of a shift (R209 to R211, R214, R218, R219) -/

/-- An immediate amount is below the width, so that its reduction changes nothing. -/
theorem shamt_mod (shamt : BitVec 5) : shamt.toNat % 32 = shamt.toNat := Nat.mod_eq_of_lt shamt.isLt

/-- A register's amount reduced to the width is its low five bits. -/
theorem toNat_mod_eq_lowFive (b : Word) : b.toNat % 32 = (b.extractLsb' 0 5).toNat := by
  simp only [toNat_extract, Nat.pow_zero, Nat.div_one, Nat.reducePow]

theorem shiftLeft_shamt (a : Word) (shamt : BitVec 5) : shiftLeft a shamt.toNat = a <<< shamt.toNat := by
  rw [shiftLeft, shamt_mod]

theorem shiftRightL_shamt (a : Word) (shamt : BitVec 5) : shiftRightL a shamt.toNat = a >>> shamt.toNat := by
  rw [shiftRightL, shamt_mod]

theorem shiftRightA_shamt (a : Word) (shamt : BitVec 5) :
    shiftRightA a shamt.toNat = a.sshiftRight shamt.toNat := by
  rw [shiftRightA, shamt_mod]

theorem shiftLeft_reg (a b : Word) : shiftLeft a b.toNat = a <<< (b.extractLsb' 0 5).toNat := by
  rw [shiftLeft, toNat_mod_eq_lowFive]

theorem shiftRightL_reg (a b : Word) : shiftRightL a b.toNat = a >>> (b.extractLsb' 0 5).toNat := by
  rw [shiftRightL, toNat_mod_eq_lowFive]

theorem shiftRightA_reg (a b : Word) : shiftRightA a b.toNat = a.sshiftRight (b.extractLsb' 0 5).toNat := by
  rw [shiftRightA, toNat_mod_eq_lowFive]

/-! ## The instructions that write one result back (R200) -/

/-- An instruction that writes back the value `v` completes, and `rd` receives the `w` that the rule names. -/
theorem exec_completes {i : Instr} {s : State} {rd : Reg} {v w : Word} {len : Nat}
    (result : exec i s = writeBack s rd v len) (value : v = w) :
    ∃ t, exec i s = .next t ∧ WritesReg s t rd w len := by
  rw [result, value]
  exact writeBack_next s rd w len

/-- Settles O1: every form writes one result back; the comparisons answer 0 or 1 by the signed value of the immediate or by
the unsigned value of its extension, and the shifts reduce their amount to five bits. -/
theorem immediateAndShiftResult : Obligations.ImmediateAndShiftResult := by
  intro s rd rs1 rs2 imm shamt
  refine ⟨?addi, ?slti, ?sltiu, ?xori, ?ori, ?andi, ?slli, ?srli, ?srai, ?sll, ?srl, ?sra⟩
  case addi | xori | ori | andi => exact exec_completes rfl rfl
  case slti => exact exec_completes rfl (boolWord_ltSigned_sext12 _ imm)
  case sltiu => exact exec_completes rfl (boolWord_ltUnsigned _ (sext12 imm))
  case slli => exact exec_completes rfl (shiftLeft_shamt _ shamt)
  case srli => exact exec_completes rfl (shiftRightL_shamt _ shamt)
  case srai => exact exec_completes rfl (shiftRightA_shamt _ shamt)
  case sll => exact exec_completes rfl (shiftLeft_reg _ _)
  case srl => exact exec_completes rfl (shiftRightL_reg _ _)
  case sra => exact exec_completes rfl (shiftRightA_reg _ _)

/-- Settles O2: every form writes one result back, and SLT and SLTU answer 0 or 1 by the signed or the unsigned order. -/
theorem registerArithmeticResult : Obligations.RegisterArithmeticResult := by
  intro s rd rs1 rs2
  refine ⟨?add, ?sub, ?slt, ?sltu, ?xor, ?or, ?and⟩
  case add | sub | xor | or | and => exact exec_completes rfl rfl
  case slt => exact exec_completes rfl (boolWord_ltSigned _ _)
  case sltu => exact exec_completes rfl (boolWord_ltUnsigned _ _)

end Sys2Proof.Machine
end

section
/-! C.NOP and the fences: the fetch queue stands apart from retirement, and the statement on the three instructions (O7). -/
namespace Sys2Proof.Machine

/-! ## The flush of the fetch queue (R125, R262) -/

/-- Retirement neither reads nor writes the fetch queue: the queue can be set before it or after it. -/
theorem State.retire_withStale (s : State) (l : List (Nat × Word)) (len : Nat) :
    ({ s with stale := l } : State).retire len = { s.retire len with stale := l } := by
  unfold State.retire State.advance
  rw [State.countInstr_debugMode, State.countInstr_debugMode]
  split <;> rfl

/-- A flush and a retirement are the retirement and an empty queue. -/
theorem State.retire_flushFetch (s : State) (len : Nat) : s.flushFetch.retire len = { s.retire len with stale := [] } :=
  s.retire_withStale [] len

/-- Apart from the queue, a flush and a retirement are the retirement alone. -/
theorem flushFetch_retires (s : State) (len : Nat) :
    Retires s { s.flushFetch.retire len with stale := s.stale } len := by
  have unflushed : { s.flushFetch.retire len with stale := s.stale } = s.retire len := by
    rw [s.retire_flushFetch, ← s.retire_stale len]
  rw [unflushed]
  exact retire_retires s len

/-- After a flush the fetch sees every byte as memory holds it. -/
theorem fetchByte_flushed (s : State) (len : Nat) (a : Word) : fetchByte (s.flushFetch.retire len) a = s.byteAt a := by
  have fresh : (s.flushFetch.retire len).stale = [] := by rw [State.retire_stale, State.flushFetch_stale]
  rw [fetchByte_fresh fresh, State.byteAt_retire]
  rfl

/-- Settles O7: C.NOP and FENCE are the retirement, and FENCE.I is the flush before it, which leaves the fetch nothing but
memory to see. -/
theorem nopAndFencesRetire : Obligations.NopAndFencesRetire := by
  intro s pred succ
  refine ⟨?cNop, ?fence, ?fenceI⟩
  case cNop => exact ⟨_, rfl, retire_retires s 2⟩
  case fence => exact ⟨_, rfl, retire_retires s 4⟩
  case fenceI => exact ⟨_, rfl, fetchByte_flushed s 4, flushFetch_retires s 4⟩

end Sys2Proof.Machine
end

section
/-! RV32M products: the two words of the exact product as words of a 64-bit one, and the statement on the four
multiplications (O4). -/
namespace Sys2Proof.Machine

/-! ## The words of a product (R291 to R294) -/

/-- The low word does not depend on the signs of the operands: it is the product modulo 2^32. -/
theorem lowWord_mul (a b : Word) : lowWord (a.toInt * b.toInt) = a * b := by
  rw [lowWord, BitVec.ofInt_mul, BitVec.ofInt_toInt, BitVec.ofInt_toInt]

/-- The model divides the exact integer by 2^32 and rounds down, so that for a negative product too the word kept is bits
63:32 of its two's complement. -/
theorem highWord_eq_extract (p : Int) : highWord p = (BitVec.ofInt 64 p).extractLsb' 32 32 := by
  apply BitVec.eq_of_toNat_eq
  simp only [highWord, BitVec.toNat_ofInt, toNat_extract]
  omega

/-- A product reduced to 64 bits is the product of its operands reduced to 64 bits. -/
theorem highWord_mul (x y : Int) :
    highWord (x * y) = (BitVec.ofInt 64 x * BitVec.ofInt 64 y).extractLsb' 32 32 := by
  rw [highWord_eq_extract, BitVec.ofInt_mul]

/-! ## The operands (R292 to R294) -/

/-- A signed operand enters the product as its sign extension. -/
theorem ofInt_signed (a : Word) : BitVec.ofInt 64 a.toInt = a.signExtend 64 := rfl

/-- An unsigned operand enters the product as its zero extension. -/
theorem ofInt_unsigned (a : Word) : BitVec.ofInt 64 a.toNat = a.setWidth 64 := by
  rw [BitVec.ofInt_natCast, BitVec.ofNat_toNat]

theorem highWord_signed (a b : Word) :
    highWord (a.toInt * b.toInt) = (a.signExtend 64 * b.signExtend 64).extractLsb' 32 32 := by
  rw [highWord_mul, ofInt_signed, ofInt_signed]

theorem highWord_signedUnsigned (a b : Word) :
    highWord (a.toInt * b.toNat) = (a.signExtend 64 * b.setWidth 64).extractLsb' 32 32 := by
  rw [highWord_mul, ofInt_signed, ofInt_unsigned]

theorem highWord_unsigned (a b : Word) :
    highWord (a.toNat * b.toNat) = (a.setWidth 64 * b.setWidth 64).extractLsb' 32 32 := by
  rw [highWord_mul, ofInt_unsigned, ofInt_unsigned]

/-! ## The multiplications -/

/-- Settles O4: every form writes one result back, the word of the exact product; the form's reading of each operand, signed
or unsigned, is the extension under which that operand enters the 64-bit product. -/
theorem multiplyResult : Obligations.MultiplyResult := by
  intro s rd rs1 rs2
  refine ⟨?mul, ?mulh, ?mulhsu, ?mulhu⟩
  case mul => exact exec_completes rfl (lowWord_mul _ _)
  case mulh => exact exec_completes rfl (highWord_signed _ _)
  case mulhsu => exact exec_completes rfl (highWord_signedUnsigned _ _)
  case mulhu => exact exec_completes rfl (highWord_unsigned _ _)

end Sys2Proof.Machine
end

section
/-! Gathered operands: where each bit of a gathered operand comes from, and the columns that hold the operand (R143, R151). -/
namespace Sys2Proof

/-- The positions in the source of the bits that `gatherFrom` concatenates, the lowest bit of the result first. -/
def positions : List (Nat × Nat) → List Nat
  | [] => []
  | (lo, len) :: t => positions t ++ List.range' lo len

theorem testBit_gatherFrom (x : Nat) (ps : List (Nat × Nat)) (acc i : Nat) :
    (gatherFrom x ps acc).testBit i =
      (positions ps)[i]?.elim (acc.testBit (i - (positions ps).length)) x.testBit := by
  induction ps generalizing acc with
  | nil => rfl
  | cons p t ih =>
    obtain ⟨lo, len⟩ := p
    rw [gatherFrom, ih, testBit_snoc, positions]
    obtain inTail | inPiece := Nat.lt_or_ge i (positions t).length
    · simp [List.getElem?_append_left, inTail]
    · by_cases h : i - (positions t).length < len
      · simp [List.getElem?_append_right, inPiece, h, Nat.testBit_div_two_pow, Nat.add_comm lo]
      · simp [List.getElem?_append_right, inPiece, h, Nat.sub_sub]

theorem getLsbD_gather {n : Nat} (x : BitVec n) (ps : List (Nat × Nat)) {i : Nat} (h : i < (positions ps).length) :
    (gather (positions ps).length x ps).getLsbD i = x.getLsbD (positions ps)[i] := by
  simp [gather, testBit_gatherFrom, h, BitVec.getLsbD]

/-- Bits `lo` and up of `y` are the gathered bits of `x` where each is the bit of `x` that its position names. -/
theorem extract_eq_gather_iff {m n k : Nat} (y : BitVec m) (x : BitVec n) (lo : Nat) (ps : List (Nat × Nat))
    (hk : (positions ps).length = k) :
    y.extractLsb' lo k = gather k x ps ↔ ∀ b ∈ (positions ps).zipIdx lo, y.getLsbD b.2 = x.getLsbD b.1 := by
  subst hk
  rw [List.forall_mem_zipIdx, BitVec.eq_of_getLsbD_eq_iff]
  refine forall₂_congr fun i hi => ?_
  rw [BitVec.getLsbD_extractLsb', getLsbD_gather x ps hi]
  simp [hi]

/-- A column of a word: its lowest bit, its width, and the pieces of the operand that it holds. -/
structure Column where
  lo : Nat
  len : Nat
  pieces : List (Nat × Nat)

/-- Word bit and operand bit of each bit of the column. -/
def Column.links (c : Column) : List (Nat × Nat) := ((positions c.pieces).zipIdx c.lo).map Prod.swap

/-- The pieces `ps` of a word name, bit for bit, what the columns hold of an operand of `k` bits. -/
abbrev Matches (k : Nat) (ps : List (Nat × Nat)) (cols : List Column) : Prop :=
  (positions ps).length = k ∧ (∀ c ∈ cols, (positions c.pieces).length = c.len) ∧
    (positions ps).zipIdx.Perm (cols.flatMap Column.links)

/-- Where the two tables match, reading an operand from its columns undoes writing it to them, in both directions. -/
theorem gather_eq_iff_columns {n k : Nat} {x : BitVec n} {v : BitVec k} {ps : List (Nat × Nat)} (cols : List Column)
    (h : Matches k ps cols) :
    gather k x ps = v ↔ ∀ c ∈ cols, x.extractLsb' c.lo c.len = gather c.len v c.pieces := by
  obtain ⟨hk, hlen, hperm⟩ := h
  have whole : gather k x ps = v ↔ v.extractLsb' 0 k = gather k x ps := by
    rw [BitVec.extractLsb'_eq_self, eq_comm]
  have column : ∀ c ∈ cols, (x.extractLsb' c.lo c.len = gather c.len v c.pieces ↔
      ∀ b ∈ c.links, v.getLsbD b.2 = x.getLsbD b.1) := fun c hc => by
    rw [extract_eq_gather_iff _ _ _ _ (hlen c hc), Column.links, List.forall_mem_map]
    exact forall₂_congr fun _ _ => eq_comm
  calc gather k x ps = v
      ↔ ∀ b ∈ (positions ps).zipIdx, v.getLsbD b.2 = x.getLsbD b.1 := whole.trans (extract_eq_gather_iff _ _ _ _ hk)
    _ ↔ ∀ b ∈ cols.flatMap Column.links, v.getLsbD b.2 = x.getLsbD b.1 := forall_congr' fun _ => by rw [hperm.mem_iff]
    _ ↔ ∀ c ∈ cols, x.extractLsb' c.lo c.len = gather c.len v c.pieces := by
      rw [List.forall_mem_flatMap]
      exact forall₂_congr fun c hc => (column c hc).symm

theorem extract_eq_gather {n : Nat} (x : BitVec n) (lo len : Nat) : x.extractLsb' lo len = gather len x [(lo, len)] := by
  apply BitVec.eq_of_toNat_eq
  rw [toNat_extract]
  simp [gather, gatherFrom]

end Sys2Proof
end

section
/-! The 32-bit encodings: a word is the encoding of operands where its columns are those operands, and decoding reads them back
(R141 to R149). -/
namespace Sys2Proof

/-! ## Operands (R143) -/

theorem immI_eq_iff {w : BitVec 32} {imm : BitVec 12} : w.extractLsb' 20 12 = imm ↔
    w.extractLsb' 25 7 = imm.extractLsb' 5 7 ∧ w.extractLsb' 20 5 = imm.extractLsb' 0 5 := by
  simpa [extract_eq_gather] using
    gather_eq_iff_columns (ps := [(20, 12)]) (x := w) (v := imm) [⟨25, 7, [(5, 7)]⟩, ⟨20, 5, [(0, 5)]⟩] (by decide)

theorem immS_eq_iff {w : BitVec 32} {imm : BitVec 12} : immS w = imm ↔
    w.extractLsb' 25 7 = imm.extractLsb' 5 7 ∧ w.extractLsb' 7 5 = imm.extractLsb' 0 5 := by
  simpa [immS, extract_eq_gather] using
    gather_eq_iff_columns (x := w) (v := imm) [⟨25, 7, [(5, 7)]⟩, ⟨7, 5, [(0, 5)]⟩] (by decide)

theorem immB_eq_iff {w : BitVec 32} {off : BitVec 12} : immB w = off ↔
    w.extractLsb' 25 7 = gather 7 off [(11, 1), (4, 6)] ∧ w.extractLsb' 7 5 = gather 5 off [(0, 4), (10, 1)] := by
  simpa [immB] using
    gather_eq_iff_columns (x := w) (v := off) [⟨25, 7, [(11, 1), (4, 6)]⟩, ⟨7, 5, [(0, 4), (10, 1)]⟩] (by decide)

theorem immU_eq_iff {w : BitVec 32} {imm : BitVec 20} : w.extractLsb' 12 20 = imm ↔
    w.extractLsb' 25 7 = imm.extractLsb' 13 7 ∧ w.extractLsb' 20 5 = imm.extractLsb' 8 5 ∧
    w.extractLsb' 15 5 = imm.extractLsb' 3 5 ∧ w.extractLsb' 12 3 = imm.extractLsb' 0 3 := by
  simpa [extract_eq_gather] using
    gather_eq_iff_columns (ps := [(12, 20)]) (x := w) (v := imm)
      [⟨25, 7, [(13, 7)]⟩, ⟨20, 5, [(8, 5)]⟩, ⟨15, 5, [(3, 5)]⟩, ⟨12, 3, [(0, 3)]⟩] (by decide)

theorem immJ_eq_iff {w : BitVec 32} {off : BitVec 20} : immJ w = off ↔
    w.extractLsb' 25 7 = gather 7 off [(19, 1), (4, 6)] ∧ w.extractLsb' 20 5 = gather 5 off [(0, 4), (10, 1)] ∧
    w.extractLsb' 15 5 = off.extractLsb' 14 5 ∧ w.extractLsb' 12 3 = off.extractLsb' 11 3 := by
  simpa [immJ, extract_eq_gather] using
    gather_eq_iff_columns (x := w) (v := off)
      [⟨25, 7, [(19, 1), (4, 6)]⟩, ⟨20, 5, [(0, 4), (10, 1)]⟩, ⟨15, 5, [(14, 5)]⟩, ⟨12, 3, [(11, 3)]⟩] (by decide)

/-- The three fields of the FENCE immediate. -/
theorem fenceFields_eq_iff {w : BitVec 32} {pred succ : BitVec 4} :
    w.extractLsb' 20 12 = BitVec.ofNat 12 (pred.toNat * 16 + succ.toNat) ↔
    w.extractLsb' 28 4 = 0 ∧ w.extractLsb' 24 4 = pred ∧ w.extractLsb' 20 4 = succ := by
  have := pred.isLt; have := succ.isLt
  simp only [← BitVec.toNat_inj, toNat_extract, BitVec.toNat_ofNat, BitVec.ofNat_eq_ofNat]
  omega

/-! ## Formats (R141, R142) -/

theorem pack32_eq_iff {w : BitVec 32} {a : BitVec 7} {b c : BitVec 5} {d : BitVec 3} {e : BitVec 5} {f : BitVec 7} :
    pack32 a b c d e f = w ↔ w.extractLsb' 25 7 = a ∧ w.extractLsb' 20 5 = b ∧ w.extractLsb' 15 5 = c ∧
      w.extractLsb' 12 3 = d ∧ w.extractLsb' 7 5 = e ∧ w.extractLsb' 0 7 = f := by
  constructor
  · rintro rfl
    exact ⟨pack32_f7 .., pack32_rs2 .., pack32_rs1 .., pack32_f3 .., pack32_rd .., pack32_op ..⟩
  · rintro ⟨rfl, rfl, rfl, rfl, rfl, rfl⟩
    exact pack32_columns w

section
variable {w : BitVec 32} {op f7 : BitVec 7} {f3 : BitVec 3} {rd rs1 rs2 : Reg}

theorem encR_eq_iff : encR f7 f3 op rd rs1 rs2 = w ↔
    w.extractLsb' 0 7 = op ∧ w.extractLsb' 25 7 = f7 ∧ w.extractLsb' 12 3 = f3 ∧ w.extractLsb' 7 5 = rd ∧
    w.extractLsb' 15 5 = rs1 ∧ w.extractLsb' 20 5 = rs2 := by
  rw [encR, pack32_eq_iff]; tauto

theorem encI_eq_iff {imm : BitVec 12} : encI f3 op rd rs1 imm = w ↔
    w.extractLsb' 0 7 = op ∧ w.extractLsb' 12 3 = f3 ∧ w.extractLsb' 7 5 = rd ∧ w.extractLsb' 15 5 = rs1 ∧
    w.extractLsb' 20 12 = imm := by
  rw [encI, pack32_eq_iff, immI_eq_iff]; tauto

theorem encS_eq_iff {imm : BitVec 12} : encS f3 rs1 rs2 imm = w ↔
    w.extractLsb' 0 7 = 0x23 ∧ w.extractLsb' 12 3 = f3 ∧ w.extractLsb' 15 5 = rs1 ∧ w.extractLsb' 20 5 = rs2 ∧
    immS w = imm := by
  rw [encS, pack32_eq_iff, immS_eq_iff]; tauto

theorem encB_eq_iff {off : BitVec 12} : encB f3 rs1 rs2 off = w ↔
    w.extractLsb' 0 7 = 0x63 ∧ w.extractLsb' 12 3 = f3 ∧ w.extractLsb' 15 5 = rs1 ∧ w.extractLsb' 20 5 = rs2 ∧
    immB w = off := by
  rw [encB, pack32_eq_iff, immB_eq_iff]; tauto

theorem encU_eq_iff {imm : BitVec 20} : encU op rd imm = w ↔
    w.extractLsb' 0 7 = op ∧ w.extractLsb' 7 5 = rd ∧ w.extractLsb' 12 20 = imm := by
  rw [encU, pack32_eq_iff, immU_eq_iff]; tauto

theorem encJ_eq_iff {off : BitVec 20} : encJ rd off = w ↔
    w.extractLsb' 0 7 = 0x6F ∧ w.extractLsb' 7 5 = rd ∧ immJ w = off := by
  rw [encJ, pack32_eq_iff, immJ_eq_iff]; tauto

end

/-! ## Every 32-bit row decodes (R148) -/

section
variable (f7 : BitVec 7) (f3 : BitVec 3) (rd rs1 rs2 : Reg) (imm : BitVec 12)

theorem decode32_lui (imm : BitVec 20) : decode32 (encU 0x37 rd imm) = .ok (.lui rd imm) := by
  obtain ⟨hop, hrd, himm⟩ := encU_eq_iff.1 (rfl : encU 0x37 rd imm = _)
  simp only [decode32, hop, hrd, himm]
  rfl

theorem decode32_auipc (imm : BitVec 20) : decode32 (encU 0x17 rd imm) = .ok (.auipc rd imm) := by
  obtain ⟨hop, hrd, himm⟩ := encU_eq_iff.1 (rfl : encU 0x17 rd imm = _)
  simp only [decode32, hop, hrd, himm]
  rfl

theorem decode32_jal (off : BitVec 20) : decode32 (encJ rd off) = .ok (.jal rd off) := by
  obtain ⟨hop, hrd, hoff⟩ := encJ_eq_iff.1 (rfl : encJ rd off = _)
  simp only [decode32, hop, hrd, hoff]
  rfl

theorem decode32_jalr : decode32 (encI 0 0x67 rd rs1 imm) = .ok (.jalr rd rs1 imm) := by
  obtain ⟨hop, hf3, hrd, hrs1, himm⟩ := encI_eq_iff.1 (rfl : encI 0 0x67 rd rs1 imm = _)
  simp only [decode32, hop, hf3, hrd, hrs1, himm]
  rfl

theorem decode32_branch (off : BitVec 12) : decode32 (encB f3 rs1 rs2 off) = decodeBranch f3.toNat rs1 rs2 off := by
  obtain ⟨hop, hf3, hrs1, hrs2, hoff⟩ := encB_eq_iff.1 (rfl : encB f3 rs1 rs2 off = _)
  simp only [decode32, hop, hf3, hrs1, hrs2, hoff]
  rfl

theorem decode32_load : decode32 (encI f3 0x03 rd rs1 imm) = decodeLoad f3.toNat rd rs1 imm := by
  obtain ⟨hop, hf3, hrd, hrs1, himm⟩ := encI_eq_iff.1 (rfl : encI f3 0x03 rd rs1 imm = _)
  simp only [decode32, hop, hf3, hrd, hrs1, himm]
  rfl

theorem decode32_store : decode32 (encS f3 rs1 rs2 imm) = decodeStore f3.toNat rs1 rs2 imm := by
  obtain ⟨hop, hf3, hrs1, hrs2, himm⟩ := encS_eq_iff.1 (rfl : encS f3 rs1 rs2 imm = _)
  simp only [decode32, hop, hf3, hrs1, hrs2, himm]
  rfl

theorem decode32_opImm : decode32 (encI f3 0x13 rd rs1 imm) =
    decodeOpImm (imm.extractLsb' 5 7).toNat f3.toNat rd rs1 imm (imm.extractLsb' 0 5) := by
  obtain ⟨hop, hf3, hrd, hrs1, himm⟩ := encI_eq_iff.1 (rfl : encI f3 0x13 rd rs1 imm = _)
  obtain ⟨hf7, hrs2⟩ := immI_eq_iff.1 himm
  simp only [decode32, hop, hf3, hf7, hrd, hrs1, hrs2, himm]
  rfl

/-- The R-format shift is the I-format word whose immediate holds funct7 over the shift amount. -/
theorem decode32_shift (shamt : BitVec 5) : decode32 (encR f7 f3 0x13 rd rs1 shamt) =
    decodeOpImm f7.toNat f3.toNat rd rs1 (f7 ++ shamt) shamt := by
  have hi : (f7 ++ shamt).extractLsb' 5 7 = f7 := BitVec.extractLsb'_append_eq_left
  have lo : (f7 ++ shamt).extractLsb' 0 5 = shamt := BitVec.extractLsb'_append_eq_right
  have h := decode32_opImm f3 rd rs1 (f7 ++ shamt)
  rwa [encI, hi, lo] at h

theorem decode32_op : decode32 (encR f7 f3 0x33 rd rs1 rs2) = decodeOp f7.toNat f3.toNat rd rs1 rs2 := by
  obtain ⟨hop, hf7, hf3, hrd, hrs1, hrs2⟩ := encR_eq_iff.1 (rfl : encR f7 f3 0x33 rd rs1 rs2 = _)
  simp only [decode32, hop, hf7, hf3, hrd, hrs1, hrs2]
  rfl

theorem decode32_fence (pred succ : BitVec 4) :
    decode32 (encI f3 0x0F 0 0 (BitVec.ofNat 12 (pred.toNat * 16 + succ.toNat))) = decodeFence f3.toNat 0 0 0 pred succ := by
  obtain ⟨hop, hf3, hrd, hrs1, himm⟩ :=
    encI_eq_iff.1 (rfl : encI f3 0x0F 0 0 (BitVec.ofNat 12 (pred.toNat * 16 + succ.toNat)) = _)
  obtain ⟨hfm, hpred, hsucc⟩ := fenceFields_eq_iff.1 himm
  simp only [decode32, hop, hf3, hrd, hrs1, hfm, hpred, hsucc]
  rfl

theorem decode32_system : decode32 (encI f3 0x73 rd rs1 imm) = decodeSystem f3.toNat rd rs1 imm := by
  obtain ⟨hop, hf3, hrd, hrs1, himm⟩ := encI_eq_iff.1 (rfl : encI f3 0x73 rd rs1 imm = _)
  simp only [decode32, hop, hf3, hrd, hrs1, himm]
  rfl
end

theorem decode32_encode32 {i : Instr} (h : i.isCompressed = false) : decode32 (encode32 i) = .ok i := by
  cases i with
  | lui rd imm => exact decode32_lui ..
  | auipc rd imm => exact decode32_auipc ..
  | jal rd off => exact decode32_jal ..
  | jalr rd rs1 imm => exact decode32_jalr ..
  | beq rs1 rs2 off | bne rs1 rs2 off | blt rs1 rs2 off | bge rs1 rs2 off | bltu rs1 rs2 off | bgeu rs1 rs2 off =>
    exact decode32_branch ..
  | lb rd rs1 imm | lh rd rs1 imm | lw rd rs1 imm | lbu rd rs1 imm | lhu rd rs1 imm => exact decode32_load ..
  | sb rs1 rs2 imm | sh rs1 rs2 imm | sw rs1 rs2 imm => exact decode32_store ..
  | addi rd rs1 imm | slti rd rs1 imm | sltiu rd rs1 imm | xori rd rs1 imm | ori rd rs1 imm | andi rd rs1 imm =>
    exact decode32_opImm ..
  | slli rd rs1 shamt | srli rd rs1 shamt | srai rd rs1 shamt => exact decode32_shift ..
  | add rd rs1 rs2 | sub rd rs1 rs2 | sll rd rs1 rs2 | slt rd rs1 rs2 | sltu rd rs1 rs2 | xor rd rs1 rs2
  | srl rd rs1 rs2 | sra rd rs1 rs2 | or rd rs1 rs2 | and rd rs1 rs2 | mul rd rs1 rs2 | mulh rd rs1 rs2
  | mulhsu rd rs1 rs2 | mulhu rd rs1 rs2 | div rd rs1 rs2 | divu rd rs1 rs2 | rem rd rs1 rs2 | remu rd rs1 rs2 =>
    exact decode32_op ..
  | fence pred succ => exact decode32_fence ..
  | fenceI => exact decode32_fence 1 0 0
  | ecall => exact decode32_system 0 0 0 0x000
  | ebreak => exact decode32_system 0 0 0 0x001
  | mret => exact decode32_system 0 0 0 0x302
  | wfi => exact decode32_system 0 0 0 0x105
  | csrrw rd rs1 csr | csrrs rd rs1 csr | csrrc rd rs1 csr | csrrwi rd zimm csr | csrrsi rd zimm csr
  | csrrci rd zimm csr => exact decode32_system ..
  | _ => cases h

/-! ## What decodes is a 32-bit row (R148, R149) -/

/-- `i` is the row of R148 that has the bits `w`. -/
structure Row32 (i : Instr) (w : BitVec 32) : Prop where
  long : i.isCompressed = false
  bits : encode32 i = w

theorem Row32.trans {i : Instr} {v w : BitVec 32} (h : Row32 i v) (e : v = w) : Row32 i w := e ▸ h

theorem guard_eq_ok {α ε : Type} {c : Prop} [Decidable c] {a b : α} {e : ε}
    (h : (if c then Except.ok a else .error e) = .ok b) : c ∧ a = b := by
  split at h
  · next hc => exact ⟨hc, Except.ok.inj h⟩
  · cases h

theorem guard_not_eq_ok {α ε : Type} {p : Prop} [Decidable p] {a b : α} {e : ε}
    (h : (if p then Except.error e else Except.ok a) = .ok b) : ¬p ∧ a = b := by
  rw [← ite_not] at h
  exact guard_eq_ok h

section
variable {f7 : BitVec 7} {f3 : BitVec 3} {rd rs1 rs2 : Reg} {imm : BitVec 12} {i : Instr}

theorem row32_of_decodeBranch (h : decodeBranch f3.toNat rs1 rs2 imm = .ok i) : Row32 i (encB f3 rs1 rs2 imm) := by
  unfold decodeBranch at h
  split at h <;> cases h <;> exact ⟨rfl, congrArg (encB · rs1 rs2 imm) (BitVec.eq_of_toNat_eq (Eq.symm ‹_›))⟩

theorem row32_of_decodeLoad (h : decodeLoad f3.toNat rd rs1 imm = .ok i) : Row32 i (encI f3 0x03 rd rs1 imm) := by
  unfold decodeLoad at h
  split at h <;> cases h <;> exact ⟨rfl, congrArg (encI · 0x03 rd rs1 imm) (BitVec.eq_of_toNat_eq (Eq.symm ‹_›))⟩

theorem row32_of_decodeStore (h : decodeStore f3.toNat rs1 rs2 imm = .ok i) : Row32 i (encS f3 rs1 rs2 imm) := by
  unfold decodeStore at h
  split at h <;> cases h <;> exact ⟨rfl, congrArg (encS · rs1 rs2 imm) (BitVec.eq_of_toNat_eq (Eq.symm ‹_›))⟩

theorem row32_of_decodeOp (h : decodeOp f7.toNat f3.toNat rd rs1 rs2 = .ok i) : Row32 i (encR f7 f3 0x33 rd rs1 rs2) := by
  unfold decodeOp at h
  split at h <;> cases h <;>
    exact ⟨rfl, congrArg₂ (encR · · 0x33 rd rs1 rs2) (BitVec.eq_of_toNat_eq (Eq.symm ‹f7.toNat = _›))
      (BitVec.eq_of_toNat_eq (Eq.symm ‹f3.toNat = _›))⟩

theorem row32_of_decodeOpImm
    (h : decodeOpImm (imm.extractLsb' 5 7).toNat f3.toNat rd rs1 imm (imm.extractLsb' 0 5) = .ok i) :
    Row32 i (encI f3 0x13 rd rs1 imm) := by
  have immediate {v : BitVec 3} (hf3 : f3.toNat = v.toNat) : encI v 0x13 rd rs1 imm = encI f3 0x13 rd rs1 imm :=
    congrArg (encI · 0x13 rd rs1 imm) (BitVec.eq_of_toNat_eq hf3.symm)
  have shift {u : BitVec 7} {v : BitVec 3} (hf7 : (imm.extractLsb' 5 7).toNat = u.toNat) (hf3 : f3.toNat = v.toNat) :
      encR u v 0x13 rd rs1 (imm.extractLsb' 0 5) = encI f3 0x13 rd rs1 imm :=
    congrArg₂ (encR · · 0x13 rd rs1 _) (BitVec.eq_of_toNat_eq hf7.symm) (BitVec.eq_of_toNat_eq hf3.symm)
  unfold decodeOpImm at h
  split at h
  case h_1 hf3 | h_2 hf3 | h_3 hf3 | h_4 hf3 | h_5 hf3 | h_6 hf3 => cases h; exact ⟨rfl, immediate hf3⟩
  case h_7 hf3 =>
    obtain ⟨hf7, rfl⟩ := guard_eq_ok h
    exact ⟨rfl, shift hf7 hf3⟩
  case h_8 hf3 =>
    split at h
    · next hf7 => cases h; exact ⟨rfl, shift hf7 hf3⟩
    · obtain ⟨hf7, rfl⟩ := guard_eq_ok h
      exact ⟨rfl, shift hf7 hf3⟩
  case h_9 => cases h

theorem row32_of_decodeFence {pre pred succ : BitVec 4} (h : decodeFence f3.toNat pre.toNat rs1 rd pred succ = .ok i) :
    pre = 0 ∧ Row32 i (encI f3 0x0F rd rs1 (BitVec.ofNat 12 (pred.toNat * 16 + succ.toNat))) := by
  unfold decodeFence at h
  split at h
  · next fixed =>
    obtain ⟨rfl, rfl, hpre⟩ := fixed
    refine ⟨BitVec.eq_of_toNat_eq hpre, ?_⟩
    split at h
    case h_1 hf3 =>
      cases h
      obtain rfl : f3 = 0 := BitVec.eq_of_toNat_eq hf3
      exact ⟨rfl, rfl⟩
    case h_2 hf3 =>
      obtain ⟨⟨rfl, rfl⟩, rfl⟩ := guard_eq_ok h
      obtain rfl : f3 = 1 := BitVec.eq_of_toNat_eq hf3
      exact ⟨rfl, rfl⟩
    case h_3 => cases h
  · cases h

theorem row32_of_decodeSystem (h : decodeSystem f3.toNat rd rs1 imm = .ok i) : Row32 i (encI f3 0x73 rd rs1 imm) := by
  have csr {v : BitVec 3} (hf3 : f3.toNat = v.toNat) : encI v 0x73 rd rs1 imm = encI f3 0x73 rd rs1 imm :=
    congrArg (encI · 0x73 rd rs1 imm) (BitVec.eq_of_toNat_eq hf3.symm)
  have word (v : BitVec 12) (himm : imm.toNat = v.toNat) : encI 0 0x73 0 0 v = encI 0 0x73 0 0 imm :=
    congrArg (encI 0 0x73 0 0) (BitVec.eq_of_toNat_eq himm.symm)
  unfold decodeSystem at h
  split at h
  case h_1 hf3 =>
    obtain rfl : f3 = 0 := BitVec.eq_of_toNat_eq hf3
    split at h
    · next fixed =>
      obtain ⟨rfl, rfl⟩ := fixed
      split at h
      case h_1 himm => cases h; exact ⟨rfl, word 0x000 himm⟩
      case h_2 himm => cases h; exact ⟨rfl, word 0x001 himm⟩
      case h_3 himm => cases h; exact ⟨rfl, word 0x302 himm⟩
      case h_4 himm => cases h; exact ⟨rfl, word 0x105 himm⟩
      case h_5 => cases h
    · cases h
  case h_2 hf3 | h_3 hf3 | h_4 hf3 | h_5 hf3 | h_6 hf3 | h_7 hf3 => cases h; exact ⟨rfl, csr hf3⟩
  case h_8 => cases h

end

theorem row32_of_decode32 {w : BitVec 32} {i : Instr} (h : decode32 w = .ok i) : Row32 i w := by
  simp only [decode32] at h
  split at h
  case h_1 hop | h_2 hop => cases h; exact ⟨rfl, encU_eq_iff.2 ⟨BitVec.eq_of_toNat_eq hop, rfl, rfl⟩⟩
  case h_3 hop => cases h; exact ⟨rfl, encJ_eq_iff.2 ⟨BitVec.eq_of_toNat_eq hop, rfl, rfl⟩⟩
  case h_4 hop =>
    obtain ⟨hf3, rfl⟩ := guard_eq_ok h
    exact ⟨rfl, encI_eq_iff.2 ⟨BitVec.eq_of_toNat_eq hop, BitVec.eq_of_toNat_eq hf3, rfl, rfl, rfl⟩⟩
  case h_5 hop => exact (row32_of_decodeBranch h).trans (encB_eq_iff.2 ⟨BitVec.eq_of_toNat_eq hop, rfl, rfl, rfl, rfl⟩)
  case h_6 hop => exact (row32_of_decodeLoad h).trans (encI_eq_iff.2 ⟨BitVec.eq_of_toNat_eq hop, rfl, rfl, rfl, rfl⟩)
  case h_7 hop => exact (row32_of_decodeStore h).trans (encS_eq_iff.2 ⟨BitVec.eq_of_toNat_eq hop, rfl, rfl, rfl, rfl⟩)
  case h_8 hop =>
    obtain ⟨hf7, hrs2⟩ := immI_eq_iff.1 (rfl : w.extractLsb' 20 12 = _)
    rw [hf7, hrs2] at h
    exact (row32_of_decodeOpImm h).trans (encI_eq_iff.2 ⟨BitVec.eq_of_toNat_eq hop, rfl, rfl, rfl, rfl⟩)
  case h_9 hop => exact (row32_of_decodeOp h).trans (encR_eq_iff.2 ⟨BitVec.eq_of_toNat_eq hop, rfl, rfl, rfl, rfl, rfl⟩)
  case h_10 hop =>
    obtain ⟨hfm, row⟩ := row32_of_decodeFence h
    have himm := fenceFields_eq_iff.2 ⟨hfm, rfl, rfl⟩
    exact row.trans (encI_eq_iff.2 ⟨BitVec.eq_of_toNat_eq hop, rfl, rfl, rfl, himm⟩)
  case h_11 hop => exact (row32_of_decodeSystem h).trans (encI_eq_iff.2 ⟨BitVec.eq_of_toNat_eq hop, rfl, rfl, rfl, rfl⟩)
  case h_12 => cases h

end Sys2Proof
end

section
/-! The 16-bit encodings: a halfword is the encoding of operands where its fields are those operands, and decoding reads them back
(R150 to R153). -/
namespace Sys2Proof

/-! ## Operands (R151) -/

section
variable {c : BitVec 16}

theorem immCI_eq_iff {imm : BitVec 6} : immCI c = imm ↔
    c.extractLsb' 12 1 = imm.extractLsb' 5 1 ∧ c.extractLsb' 2 5 = imm.extractLsb' 0 5 := by
  simpa [immCI, extract_eq_gather] using
    gather_eq_iff_columns (x := c) (v := imm) [⟨12, 1, [(5, 1)]⟩, ⟨2, 5, [(0, 5)]⟩] (by decide)

theorem immCL_eq_iff {imm : BitVec 5} : immCL c = imm ↔
    c.extractLsb' 10 3 = imm.extractLsb' 1 3 ∧ c.extractLsb' 5 2 = gather 2 imm [(0, 1), (4, 1)] := by
  simpa [immCL, extract_eq_gather] using
    gather_eq_iff_columns (x := c) (v := imm) [⟨10, 3, [(1, 3)]⟩, ⟨5, 2, [(0, 1), (4, 1)]⟩] (by decide)

theorem immCIW_eq_iff {imm : BitVec 8} : immCIW c = imm ↔
    c.extractLsb' 5 8 = gather 8 imm [(2, 2), (4, 4), (0, 1), (1, 1)] := by
  simpa [immCIW] using
    gather_eq_iff_columns (x := c) (v := imm) [⟨5, 8, [(2, 2), (4, 4), (0, 1), (1, 1)]⟩] (by decide)

theorem immC16sp_eq_iff {imm : BitVec 6} : immC16sp c = imm ↔
    c.extractLsb' 12 1 = imm.extractLsb' 5 1 ∧ c.extractLsb' 2 5 = gather 5 imm [(0, 1), (2, 1), (3, 2), (1, 1)] := by
  simpa [immC16sp, extract_eq_gather] using
    gather_eq_iff_columns (x := c) (v := imm) [⟨12, 1, [(5, 1)]⟩, ⟨2, 5, [(0, 1), (2, 1), (3, 2), (1, 1)]⟩] (by decide)

theorem immCLwsp_eq_iff {imm : BitVec 6} : immCLwsp c = imm ↔
    c.extractLsb' 12 1 = imm.extractLsb' 3 1 ∧ c.extractLsb' 2 5 = gather 5 imm [(0, 3), (4, 2)] := by
  simpa [immCLwsp, extract_eq_gather] using
    gather_eq_iff_columns (x := c) (v := imm) [⟨12, 1, [(3, 1)]⟩, ⟨2, 5, [(0, 3), (4, 2)]⟩] (by decide)

theorem immCSwsp_eq_iff {imm : BitVec 6} : immCSwsp c = imm ↔
    c.extractLsb' 7 6 = gather 6 imm [(0, 4), (4, 2)] := by
  simpa [immCSwsp] using
    gather_eq_iff_columns (x := c) (v := imm) [⟨7, 6, [(0, 4), (4, 2)]⟩] (by decide)

theorem immCB_eq_iff {off : BitVec 8} : immCB c = off ↔
    c.extractLsb' 10 3 = gather 3 off [(7, 1), (2, 2)] ∧ c.extractLsb' 2 5 = gather 5 off [(5, 2), (0, 2), (4, 1)] := by
  simpa [immCB] using
    gather_eq_iff_columns (x := c) (v := off) [⟨10, 3, [(7, 1), (2, 2)]⟩, ⟨2, 5, [(5, 2), (0, 2), (4, 1)]⟩] (by decide)

theorem immCJ_eq_iff {off : BitVec 11} : immCJ c = off ↔
    c.extractLsb' 2 11 = gather 11 off [(10, 1), (3, 1), (7, 2), (9, 1), (5, 1), (6, 1), (0, 3), (4, 1)] := by
  simpa [immCJ] using
    gather_eq_iff_columns (x := c) (v := off)
      [⟨2, 11, [(10, 1), (3, 1), (7, 2), (9, 1), (5, 1), (6, 1), (0, 3), (4, 1)]⟩] (by decide)

/-- Bits 12:10 apart, as the decoder of the ALU rows reads them: bit 12, and bits 11:10, which select the row. -/
theorem funct_eq_iff {hi : BitVec 3} : c.extractLsb' 10 3 = hi ↔
    c.extractLsb' 12 1 = hi.extractLsb' 2 1 ∧ c.extractLsb' 10 2 = hi.extractLsb' 0 2 := by
  simpa [extract_eq_gather] using
    gather_eq_iff_columns (ps := [(10, 3)]) (x := c) (v := hi) [⟨12, 1, [(2, 1)]⟩, ⟨10, 2, [(0, 2)]⟩] (by decide)

/-! ## Formats (R150) -/

theorem pack16_eq_iff {f3 : BitVec 3} {mid : BitVec 11} {op : BitVec 2} : pack16 f3 mid op = c ↔
    c.extractLsb' 0 2 = op ∧ c.extractLsb' 13 3 = f3 ∧ c.extractLsb' 2 11 = mid := by
  constructor
  · rintro rfl
    exact ⟨pack16_op .., pack16_f3 .., pack16_mid ..⟩
  · rintro ⟨rfl, rfl, rfl⟩
    exact pack16_fields c

variable {f3 : BitVec 3} {op : BitVec 2}

theorem encCI_eq_iff {b12 : BitVec 1} {r low : BitVec 5} : encCI f3 b12 r low op = c ↔
    c.extractLsb' 0 2 = op ∧ c.extractLsb' 13 3 = f3 ∧ c.extractLsb' 12 1 = b12 ∧ c.extractLsb' 7 5 = r ∧
    c.extractLsb' 2 5 = low := by
  have := b12.isLt; have := r.isLt; have := low.isLt
  rw [encCI, pack16_eq_iff]
  refine and_congr_right' (and_congr_right' ?_)
  simp only [← BitVec.toNat_inj, toNat_extract, BitVec.toNat_ofNat]
  omega

theorem encCP_eq_iff {hi : BitVec 3} {r1 r2 : RegC} {lo : BitVec 2} : encCP f3 hi r1 lo r2 op = c ↔
    c.extractLsb' 0 2 = op ∧ c.extractLsb' 13 3 = f3 ∧ c.extractLsb' 10 3 = hi ∧ c.extractLsb' 7 3 = r1 ∧
    c.extractLsb' 5 2 = lo ∧ c.extractLsb' 2 3 = r2 := by
  have := hi.isLt; have := r1.isLt; have := lo.isLt; have := r2.isLt
  rw [encCP, pack16_eq_iff]
  refine and_congr_right' (and_congr_right' ?_)
  simp only [← BitVec.toNat_inj, toNat_extract, BitVec.toNat_ofNat]
  omega

theorem encCB_eq_iff {hi r1 : BitVec 3} {low : BitVec 5} : encCB f3 hi r1 low = c ↔
    c.extractLsb' 0 2 = 1 ∧ c.extractLsb' 13 3 = f3 ∧ c.extractLsb' 10 3 = hi ∧ c.extractLsb' 7 3 = r1 ∧
    c.extractLsb' 2 5 = low := by
  have := hi.isLt; have := r1.isLt; have := low.isLt
  rw [encCB, pack16_eq_iff]
  refine and_congr_right' (and_congr_right' ?_)
  simp only [← BitVec.toNat_inj, toNat_extract, BitVec.toNat_ofNat]
  omega

theorem encCImm_eq_iff {r : Reg} {imm : BitVec 6} : encCImm f3 r imm = c ↔
    c.extractLsb' 0 2 = 1 ∧ c.extractLsb' 13 3 = f3 ∧ c.extractLsb' 7 5 = r ∧ immCI c = imm := by
  rw [encCImm, encCI_eq_iff, immCI_eq_iff]; tauto

theorem encCJ_eq_iff {off : BitVec 11} : encCJ f3 off = c ↔
    c.extractLsb' 0 2 = 1 ∧ c.extractLsb' 13 3 = f3 ∧ immCJ c = off := by
  rw [encCJ, pack16_eq_iff, immCJ_eq_iff]

theorem encCBr_eq_iff {r : RegC} {off : BitVec 8} : encCBr f3 r off = c ↔
    c.extractLsb' 0 2 = 1 ∧ c.extractLsb' 13 3 = f3 ∧ c.extractLsb' 7 3 = r ∧ immCB c = off := by
  rw [encCBr, encCB_eq_iff, immCB_eq_iff]; tauto

/-! ## Rows with an operand layout of their own (R151, R152) -/

theorem cAddi4spn_eq_iff {rd : RegC} {imm : BitVec 8} : encode16 (.cAddi4spn rd imm) = c ↔
    c.extractLsb' 0 2 = 0 ∧ c.extractLsb' 13 3 = 0 ∧ c.extractLsb' 2 3 = rd ∧ immCIW c = imm := by
  have := rd.isLt
  have := (gather 8 imm [(2, 2), (4, 4), (0, 1), (1, 1)]).isLt
  refine pack16_eq_iff.trans (and_congr_right' (and_congr_right' ?_))
  rw [immCIW_eq_iff]
  simp only [← BitVec.toNat_inj, toNat_extract, BitVec.toNat_ofNat]
  omega

theorem cLw_eq_iff {rd rs1 : RegC} {imm : BitVec 5} : encode16 (.cLw rd rs1 imm) = c ↔
    c.extractLsb' 0 2 = 0 ∧ c.extractLsb' 13 3 = 2 ∧ c.extractLsb' 2 3 = rd ∧ c.extractLsb' 7 3 = rs1 ∧ immCL c = imm :=
  encCP_eq_iff.trans (by rw [immCL_eq_iff]; tauto)

theorem cSw_eq_iff {rs1 rs2 : RegC} {imm : BitVec 5} : encode16 (.cSw rs1 rs2 imm) = c ↔
    c.extractLsb' 0 2 = 0 ∧ c.extractLsb' 13 3 = 6 ∧ c.extractLsb' 7 3 = rs1 ∧ c.extractLsb' 2 3 = rs2 ∧ immCL c = imm :=
  encCP_eq_iff.trans (by rw [immCL_eq_iff]; tauto)

theorem cAddi16sp_eq_iff {imm : BitVec 6} : encode16 (.cAddi16sp imm) = c ↔
    c.extractLsb' 0 2 = 1 ∧ c.extractLsb' 13 3 = 3 ∧ c.extractLsb' 7 5 = 2 ∧ immC16sp c = imm :=
  encCI_eq_iff.trans (by rw [immC16sp_eq_iff]; tauto)

theorem cAndi_eq_iff {rd : RegC} {imm : BitVec 6} : encode16 (.cAndi rd imm) = c ↔
    c.extractLsb' 0 2 = 1 ∧ c.extractLsb' 13 3 = 4 ∧ c.extractLsb' 10 2 = 2 ∧ c.extractLsb' 7 3 = rd ∧ immCI c = imm := by
  have bit12 : (BitVec.ofNat 3 (imm.toNat / 32 * 4 + 2)).extractLsb' 2 1 = imm.extractLsb' 5 1 := by revert imm; decide
  have select : (BitVec.ofNat 3 (imm.toNat / 32 * 4 + 2)).extractLsb' 0 2 = 2 := by revert imm; decide
  refine encCB_eq_iff.trans ?_
  rw [immCI_eq_iff, funct_eq_iff, bit12, select]
  tauto

theorem cLwsp_eq_iff {rd : Reg} {imm : BitVec 6} : encode16 (.cLwsp rd imm) = c ↔
    c.extractLsb' 0 2 = 2 ∧ c.extractLsb' 13 3 = 2 ∧ c.extractLsb' 7 5 = rd ∧ immCLwsp c = imm :=
  encCI_eq_iff.trans (by rw [immCLwsp_eq_iff]; tauto)

theorem cSwsp_eq_iff {rs2 : Reg} {imm : BitVec 6} : encode16 (.cSwsp rs2 imm) = c ↔
    c.extractLsb' 0 2 = 2 ∧ c.extractLsb' 13 3 = 6 ∧ c.extractLsb' 2 5 = rs2 ∧ immCSwsp c = imm := by
  have := rs2.isLt
  have := (gather 6 imm [(0, 4), (4, 2)]).isLt
  refine pack16_eq_iff.trans (and_congr_right' (and_congr_right' ?_))
  rw [immCSwsp_eq_iff]
  simp only [← BitVec.toNat_inj, toNat_extract, BitVec.toNat_ofNat]
  omega

/-- The shift rows of funct3 = 100, in the fields that the decoder reads. -/
theorem encCB_shift_eq_iff {hi rd : RegC} {shamt : BitVec 5} : encCB 4 hi rd shamt = c ↔
    c.extractLsb' 0 2 = 1 ∧ c.extractLsb' 13 3 = 4 ∧ (c.extractLsb' 12 1 = hi.extractLsb' 2 1 ∧
    c.extractLsb' 10 2 = hi.extractLsb' 0 2) ∧ c.extractLsb' 7 3 = rd ∧ c.extractLsb' 2 5 = shamt := by
  rw [encCB_eq_iff, funct_eq_iff]

/-- The register rows of funct3 = 100: bits 6:5 select among them. -/
theorem encCP_alu_eq_iff {rd rs2 : RegC} {sel : BitVec 2} : encCP 4 3 rd sel rs2 1 = c ↔
    c.extractLsb' 0 2 = 1 ∧ c.extractLsb' 13 3 = 4 ∧ (c.extractLsb' 12 1 = 0 ∧ c.extractLsb' 10 2 = 3) ∧
    c.extractLsb' 7 3 = rd ∧ c.extractLsb' 5 2 = sel ∧ c.extractLsb' 2 3 = rs2 := by
  rw [encCP_eq_iff, funct_eq_iff]; rfl

end

/-! ## Every 16-bit row decodes (R152) -/

theorem decode16_encode16 {i : Instr} (hc : i.isCompressed = true) (ho : i.operandsOk = true) :
    decode16 (encode16 i) = .ok i := by
  generalize hw : encode16 i = c
  cases i with
  | cIllegal | cNop | cEbreak => subst hw; rfl
  | cAddi4spn rd imm =>
    obtain ⟨hop, hf3, hrd, himm⟩ := cAddi4spn_eq_iff.1 hw
    have nonzero : imm ≠ 0 := by simpa [Instr.operandsOk] using ho
    have notIllegal : c ≠ 0 := by rintro rfl; exact nonzero himm.symm
    simp only [decode16, decodeQ0, hop, hf3, hrd, himm, nonzero, notIllegal]
    rfl
  | cLw rd rs1 imm =>
    obtain ⟨hop, hf3, hrd, hrs1, himm⟩ := cLw_eq_iff.1 hw
    simp only [decode16, decodeQ0, hop, hf3, hrd, hrs1, himm]
    rfl
  | cSw rs1 rs2 imm =>
    obtain ⟨hop, hf3, hrs1, hrs2, himm⟩ := cSw_eq_iff.1 hw
    simp only [decode16, decodeQ0, hop, hf3, hrs1, hrs2, himm]
    rfl
  | cAddi rd imm =>
    obtain ⟨hop, hf3, hrd, himm⟩ := encCImm_eq_iff.1 hw
    have notNop : ¬(rd = 0 ∧ imm = 0) := by simpa [Instr.operandsOk, imp_iff_not_or] using ho
    simp only [decode16, decodeQ1, hop, hf3, hrd, himm, notNop]
    rfl
  | cJal off | cJ off =>
    obtain ⟨hop, hf3, hoff⟩ := encCJ_eq_iff.1 hw
    simp only [decode16, decodeQ1, hop, hf3, hoff]
    rfl
  | cLi rd imm =>
    obtain ⟨hop, hf3, hrd, himm⟩ := encCImm_eq_iff.1 hw
    simp only [decode16, decodeQ1, hop, hf3, hrd, himm]
    rfl
  | cAddi16sp imm =>
    obtain ⟨hop, hf3, hrd, himm⟩ := cAddi16sp_eq_iff.1 hw
    have nonzero : imm ≠ 0 := by simpa [Instr.operandsOk] using ho
    simp only [decode16, decodeQ1, hop, hf3, hrd, himm, nonzero]
    rfl
  | cLui rd imm =>
    obtain ⟨hop, hf3, hrd, himm⟩ := encCImm_eq_iff.1 hw
    obtain ⟨notSp, nonzero⟩ : rd ≠ 2 ∧ imm ≠ 0 := by simpa [Instr.operandsOk] using ho
    simp only [decode16, decodeQ1, hop, hf3, hrd, himm, notSp, nonzero]
    rfl
  | cSrli rd shamt | cSrai rd shamt =>
    obtain ⟨hop, hf3, ⟨h12, h10⟩, hrd, hshamt⟩ := encCB_shift_eq_iff.1 hw
    simp only [decode16, decodeQ1, decodeQ1Alu, hop, hf3, h12, h10, hrd, hshamt]
    rfl
  | cAndi rd imm =>
    obtain ⟨hop, hf3, h10, hrd, himm⟩ := cAndi_eq_iff.1 hw
    simp only [decode16, decodeQ1, decodeQ1Alu, hop, hf3, h10, hrd, himm]
    rfl
  | cSub rd rs2 | cXor rd rs2 | cOr rd rs2 | cAnd rd rs2 =>
    obtain ⟨hop, hf3, ⟨h12, h10⟩, hrd, hsel, hrs2⟩ := encCP_alu_eq_iff.1 hw
    simp only [decode16, decodeQ1, decodeQ1Alu, hop, hf3, h12, h10, hrd, hsel, hrs2]
    rfl
  | cBeqz rs1 off | cBnez rs1 off =>
    obtain ⟨hop, hf3, hrs1, hoff⟩ := encCBr_eq_iff.1 hw
    simp only [decode16, decodeQ1, hop, hf3, hrs1, hoff]
    rfl
  | cSlli rd shamt =>
    obtain ⟨hop, hf3, h12, hrd, hshamt⟩ := encCI_eq_iff.1 hw
    simp only [decode16, decodeQ2, hop, hf3, h12, hrd, hshamt]
    rfl
  | cLwsp rd imm =>
    obtain ⟨hop, hf3, hrd, himm⟩ := cLwsp_eq_iff.1 hw
    have nonzero : rd ≠ 0 := by simpa [Instr.operandsOk] using ho
    simp only [decode16, decodeQ2, hop, hf3, hrd, himm, nonzero]
    rfl
  | cJr rs1 | cJalr rs1 =>
    obtain ⟨hop, hf3, h12, hrs1, hrs2⟩ := encCI_eq_iff.1 hw
    have nonzero : rs1 ≠ 0 := by simpa [Instr.operandsOk] using ho
    simp only [decode16, decodeQ2, hop, hf3, h12, hrs1, hrs2, nonzero]
    rfl
  | cMv rd rs2 | cAdd rd rs2 =>
    obtain ⟨hop, hf3, h12, hrd, hrs2⟩ := encCI_eq_iff.1 hw
    have nonzero : rs2 ≠ 0 := by simpa [Instr.operandsOk] using ho
    simp only [decode16, decodeQ2, hop, hf3, h12, hrd, hrs2, nonzero]
    rfl
  | cSwsp rs2 imm =>
    obtain ⟨hop, hf3, hrs2, himm⟩ := cSwsp_eq_iff.1 hw
    simp only [decode16, decodeQ2, hop, hf3, hrs2, himm]
    rfl
  | _ => cases hc

/-! ## What decodes is a 16-bit row (R152, R153) -/

/-- `i` is the row of R152 that has the bits `c`, with operands that R152 and R153 leave to it. -/
structure Row16 (i : Instr) (c : BitVec 16) : Prop where
  short : i.isCompressed = true
  operands : i.operandsOk = true
  bits : encode16 i = c

theorem oneBit_eq_one : ∀ b : BitVec 1, b.toNat ≠ 0 → b = 1 := by decide

theorem twoBits_eq_three : ∀ b : BitVec 2, b.toNat ≠ 0 → b.toNat ≠ 1 → b.toNat ≠ 2 → b = 3 := by decide

theorem threeBits_eq_seven (b : BitVec 3) (h0 : b.toNat ≠ 0) (h1 : b.toNat ≠ 1) (h2 : b.toNat ≠ 2) (h3 : b.toNat ≠ 3)
    (h4 : b.toNat ≠ 4) (h5 : b.toNat ≠ 5) (h6 : b.toNat ≠ 6) : b = 7 := by
  have := b.isLt
  exact BitVec.eq_of_toNat_eq (show b.toNat = 7 by omega)

section
variable {c : BitVec 16} {i : Instr}

theorem row16_of_decodeQ0 (hop : c.extractLsb' 0 2 = 0) (h : decodeQ0 (c.extractLsb' 13 3).toNat c = .ok i) :
    Row16 i c := by
  simp only [decodeQ0] at h
  split at h
  case h_1 hf3 =>
    split at h
    · next illegal => cases h; exact ⟨rfl, rfl, illegal.symm⟩
    · obtain ⟨nonzero, rfl⟩ := guard_not_eq_ok h
      exact ⟨rfl, bne_iff_ne.2 nonzero, cAddi4spn_eq_iff.2 ⟨hop, BitVec.eq_of_toNat_eq hf3, rfl, rfl⟩⟩
  case h_2 hf3 => cases h; exact ⟨rfl, rfl, cLw_eq_iff.2 ⟨hop, BitVec.eq_of_toNat_eq hf3, rfl, rfl, rfl⟩⟩
  case h_3 hf3 => cases h; exact ⟨rfl, rfl, cSw_eq_iff.2 ⟨hop, BitVec.eq_of_toNat_eq hf3, rfl, rfl, rfl⟩⟩
  case h_4 => cases h

theorem row16_of_decodeQ1Alu (hop : c.extractLsb' 0 2 = 1) (hf3 : c.extractLsb' 13 3 = 4) (h : decodeQ1Alu c = .ok i) :
    Row16 i c := by
  simp only [decodeQ1Alu] at h
  split at h
  case h_1 h10 | h_2 h10 =>
    obtain ⟨h12, rfl⟩ := guard_eq_ok h
    exact ⟨rfl, rfl, encCB_shift_eq_iff.2
      ⟨hop, hf3, ⟨BitVec.eq_of_toNat_eq h12, BitVec.eq_of_toNat_eq h10⟩, rfl, rfl⟩⟩
  case h_3 h10 => cases h; exact ⟨rfl, rfl, cAndi_eq_iff.2 ⟨hop, hf3, BitVec.eq_of_toNat_eq h10, rfl, rfl⟩⟩
  case h_4 not0 not1 not2 =>
    have h10 := twoBits_eq_three _ not0 not1 not2
    split at h
    · next h12 =>
      replace h12 : c.extractLsb' 12 1 = 0 := BitVec.eq_of_toNat_eq h12
      split at h
      case h_1 hsel | h_2 hsel | h_3 hsel =>
        cases h
        exact ⟨rfl, rfl, encCP_alu_eq_iff.2 ⟨hop, hf3, ⟨h12, h10⟩, rfl, BitVec.eq_of_toNat_eq hsel, rfl⟩⟩
      case h_4 not0 not1 not2 =>
        cases h
        exact ⟨rfl, rfl, encCP_alu_eq_iff.2 ⟨hop, hf3, ⟨h12, h10⟩, rfl, twoBits_eq_three _ not0 not1 not2, rfl⟩⟩
    · cases h

theorem row16_of_decodeQ1 (hop : c.extractLsb' 0 2 = 1) (h : decodeQ1 (c.extractLsb' 13 3).toNat c = .ok i) :
    Row16 i c := by
  simp only [decodeQ1] at h
  split at h
  case h_1 hf3 =>
    split at h
    · next zero =>
      cases h
      have bits : encCImm 0 0 0 = c := encCImm_eq_iff.2 ⟨hop, BitVec.eq_of_toNat_eq hf3, zero⟩
      exact ⟨rfl, rfl, bits⟩
    · next notNop =>
      cases h
      exact ⟨rfl, by simpa [Instr.operandsOk, imp_iff_not_or] using notNop,
        encCImm_eq_iff.2 ⟨hop, BitVec.eq_of_toNat_eq hf3, rfl, rfl⟩⟩
  case h_2 hf3 => cases h; exact ⟨rfl, rfl, encCJ_eq_iff.2 ⟨hop, BitVec.eq_of_toNat_eq hf3, rfl⟩⟩
  case h_3 hf3 => cases h; exact ⟨rfl, rfl, encCImm_eq_iff.2 ⟨hop, BitVec.eq_of_toNat_eq hf3, rfl, rfl⟩⟩
  case h_4 hf3 =>
    split at h
    · next sp =>
      obtain ⟨nonzero, rfl⟩ := guard_not_eq_ok h
      exact ⟨rfl, bne_iff_ne.2 nonzero, cAddi16sp_eq_iff.2 ⟨hop, BitVec.eq_of_toNat_eq hf3, sp, rfl⟩⟩
    · next notSp =>
      obtain ⟨nonzero, rfl⟩ := guard_not_eq_ok h
      exact ⟨rfl, Bool.and_eq_true_iff.2 ⟨bne_iff_ne.2 notSp, bne_iff_ne.2 nonzero⟩,
        encCImm_eq_iff.2 ⟨hop, BitVec.eq_of_toNat_eq hf3, rfl, rfl⟩⟩
  case h_5 hf3 => exact row16_of_decodeQ1Alu hop (BitVec.eq_of_toNat_eq hf3) h
  case h_6 hf3 => cases h; exact ⟨rfl, rfl, encCJ_eq_iff.2 ⟨hop, BitVec.eq_of_toNat_eq hf3, rfl⟩⟩
  case h_7 hf3 => cases h; exact ⟨rfl, rfl, encCBr_eq_iff.2 ⟨hop, BitVec.eq_of_toNat_eq hf3, rfl, rfl⟩⟩
  case h_8 not0 not1 not2 not3 not4 not5 not6 =>
    cases h
    have hf3 := threeBits_eq_seven _ not0 not1 not2 not3 not4 not5 not6
    exact ⟨rfl, rfl, encCBr_eq_iff.2 ⟨hop, hf3, rfl, rfl⟩⟩

theorem row16_of_decodeQ2 (hop : c.extractLsb' 0 2 = 2) (h : decodeQ2 (c.extractLsb' 13 3).toNat c = .ok i) :
    Row16 i c := by
  simp only [decodeQ2] at h
  split at h
  case h_1 hf3 =>
    obtain ⟨h12, rfl⟩ := guard_eq_ok h
    exact ⟨rfl, rfl, encCI_eq_iff.2 ⟨hop, BitVec.eq_of_toNat_eq hf3, BitVec.eq_of_toNat_eq h12, rfl, rfl⟩⟩
  case h_2 hf3 =>
    obtain ⟨nonzero, rfl⟩ := guard_not_eq_ok h
    exact ⟨rfl, bne_iff_ne.2 nonzero, cLwsp_eq_iff.2 ⟨hop, BitVec.eq_of_toNat_eq hf3, rfl, rfl⟩⟩
  case h_3 hf3 =>
    replace hf3 : c.extractLsb' 13 3 = 4 := BitVec.eq_of_toNat_eq hf3
    split at h
    · next h12 =>
      replace h12 : c.extractLsb' 12 1 = 0 := BitVec.eq_of_toNat_eq h12
      split at h
      · next hrs2 =>
        obtain ⟨nonzero, rfl⟩ := guard_not_eq_ok h
        exact ⟨rfl, bne_iff_ne.2 nonzero, encCI_eq_iff.2 ⟨hop, hf3, h12, rfl, hrs2⟩⟩
      · next nonzero => cases h; exact ⟨rfl, bne_iff_ne.2 nonzero, encCI_eq_iff.2 ⟨hop, hf3, h12, rfl, rfl⟩⟩
    · next set12 =>
      have h12 : c.extractLsb' 12 1 = 1 := oneBit_eq_one _ set12
      split at h
      · next hrs2 =>
        split at h
        · next hrd =>
          cases h
          have bits : encCI 4 1 0 0 2 = c := encCI_eq_iff.2 ⟨hop, hf3, h12, hrd, hrs2⟩
          exact ⟨rfl, rfl, bits⟩
        · next nonzero => cases h; exact ⟨rfl, bne_iff_ne.2 nonzero, encCI_eq_iff.2 ⟨hop, hf3, h12, rfl, hrs2⟩⟩
      · next nonzero => cases h; exact ⟨rfl, bne_iff_ne.2 nonzero, encCI_eq_iff.2 ⟨hop, hf3, h12, rfl, rfl⟩⟩
  case h_4 hf3 => cases h; exact ⟨rfl, rfl, cSwsp_eq_iff.2 ⟨hop, BitVec.eq_of_toNat_eq hf3, rfl, rfl⟩⟩
  case h_5 => cases h

theorem row16_of_decode16 (h : decode16 c = .ok i) : Row16 i c := by
  simp only [decode16] at h
  split at h
  case h_1 hop => exact row16_of_decodeQ0 (BitVec.eq_of_toNat_eq hop) h
  case h_2 hop => exact row16_of_decodeQ1 (BitVec.eq_of_toNat_eq hop) h
  case h_3 hop => exact row16_of_decodeQ2 (BitVec.eq_of_toNat_eq hop) h
  case h_4 => cases h

end

end Sys2Proof
end

section
/-! The bytes of an instruction and the rows of a configuration, and the statement on decoding and encoding (O37). -/
namespace Sys2Proof

/-! ## The bytes of an encoding (R101) -/

theorem byteOf_word4 (b0 b1 b2 b3 : Byte) : byteOf (word4 b0 b1 b2 b3) 0 = b0 ∧ byteOf (word4 b0 b1 b2 b3) 1 = b1 ∧
    byteOf (word4 b0 b1 b2 b3) 2 = b2 ∧ byteOf (word4 b0 b1 b2 b3) 3 = b3 := by
  simp only [← BitVec.toNat_inj, byteOf, toNat_extract, word4, BitVec.toNat_ofNat]
  omega

theorem word4_byteOf (w : Word) : word4 (byteOf w 0) (byteOf w 1) (byteOf w 2) (byteOf w 3) = w := by
  apply BitVec.eq_of_toNat_eq
  simp only [byteOf, word4, toNat_extract, BitVec.toNat_ofNat]
  omega

theorem half_byteOf (c : BitVec 16) : half (byteOf (c.setWidth 32) 0) (byteOf (c.setWidth 32) 1) = c := by
  apply BitVec.eq_of_toNat_eq
  simp only [byteOf, half, toNat_extract, BitVec.toNat_ofNat, BitVec.toNat_setWidth]
  omega

/-- The low halfword of a window. -/
theorem word4_low (b0 b1 b2 b3 : Byte) : (word4 b0 b1 b2 b3).extractLsb' 0 16 = half b0 b1 := by
  apply BitVec.eq_of_toNat_eq
  simp only [half, word4, toNat_extract, BitVec.toNat_ofNat]
  omega

theorem Row16.encode {i : Instr} {b0 b1 : Byte} (h : Row16 i (half b0 b1)) : encode i = [b0, b1] := by
  have bits : i.bits = word4 b0 b1 0 0 := by rw [Instr.bits, h.short, h.bits, ← half_setWidth]; rfl
  obtain ⟨h0, h1, -, -⟩ := byteOf_word4 b0 b1 0 0
  rw [Sys2Proof.encode, h.short, bits, h0, h1]; rfl

theorem Row32.encode {i : Instr} {b0 b1 b2 b3 : Byte} (h : Row32 i (word4 b0 b1 b2 b3)) : encode i = [b0, b1, b2, b3] := by
  have bits : i.bits = word4 b0 b1 b2 b3 := by rw [Instr.bits, h.long, h.bits]; rfl
  obtain ⟨h0, h1, h2, h3⟩ := byteOf_word4 b0 b1 b2 b3
  rw [Sys2Proof.encode, h.long, bits, h0, h1, h2, h3]; rfl

/-! ## Rows of a configuration -/

theorem decode16_eq_ok_iff {c : BitVec 16} {i : Instr} : decode16 c = .ok i ↔ Row16 i c :=
  ⟨row16_of_decode16, fun h => h.bits ▸ decode16_encode16 h.short h.operands⟩

theorem decode32_eq_ok_iff {w : BitVec 32} {i : Instr} : decode32 w = .ok i ↔ Row32 i w :=
  ⟨row32_of_decode32, fun h => h.bits ▸ decode32_encode32 h.long⟩

/-- A 16-bit row has another value than 11 in bits 1:0 (R140). -/
theorem Row16.quadrant {i : Instr} {c : BitVec 16} (h : Row16 i c) : (c.extractLsb' 0 2).toNat ≠ 3 := by
  intro h3
  have hd := decode16_eq_ok_iff.2 h
  simp only [decode16, h3] at hd
  cases hd

/-- A 32-bit row has 11 in bits 1:0 (R140). -/
theorem Row32.quadrant {i : Instr} {w : BitVec 32} (h : Row32 i w) : ((w.extractLsb' 0 16).extractLsb' 0 2).toNat = 3 := by
  have hd := decode32_eq_ok_iff.2 h
  have low : ((w.extractLsb' 0 16).extractLsb' 0 2).toNat = (w.extractLsb' 0 7).toNat % 4 := by
    simp only [toNat_extract]
    omega
  rw [low]
  simp only [decode32] at hd
  split at hd
  case h_12 => cases hd
  all_goals next hop => rw [hop]

theorem operandsOk_of_long {i : Instr} (h : i.isCompressed = false) : i.operandsOk = true := by
  cases i with
  | cAddi4spn | cAddi | cAddi16sp | cLui | cLwsp | cJr | cJalr | cMv | cAdd => cases h
  | _ => rfl

section
variable {cfg : Config} {i : Instr}

theorem wellFormed_iff : i.wellFormed cfg = true ↔ i.extOk cfg = true ∧ i.regsOk cfg = true ∧ i.operandsOk = true := by
  simp only [Instr.wellFormed, Bool.and_eq_true, and_assoc]

theorem rvc_of_wellFormed (hw : i.wellFormed cfg = true) (hc : i.isCompressed = true) : cfg.rvc = true := by
  obtain ⟨ext, -, -⟩ := wellFormed_iff.1 hw
  rw [Instr.extOk, hc, Bool.and_eq_true] at ext
  exact ext.2

theorem checkConfig_eq_ok_iff {j : Instr} : checkConfig cfg i = .ok j ↔
    i = j ∧ i.extOk cfg = true ∧ i.regsOk cfg = true := by
  constructor
  · intro h
    unfold checkConfig at h
    split at h
    · next ext => obtain ⟨regs, rfl⟩ := guard_eq_ok h; exact ⟨rfl, ext, regs⟩
    · cases h
  · rintro ⟨rfl, ext, regs⟩
    simp only [checkConfig, ext, regs, if_true]

theorem bind_checkConfig_eq_ok_iff {r : Except DecodeError Instr} : r.bind (checkConfig cfg) = .ok i ↔
    r = .ok i ∧ i.extOk cfg = true ∧ i.regsOk cfg = true := by
  cases r with
  | error e => simp [Except.bind]
  | ok j =>
    refine checkConfig_eq_ok_iff.trans ?_
    rw [Except.ok.injEq]
    exact and_congr_right (by rintro rfl; rfl)

theorem decodeWindow_eq_bind (cfg : Config) (w : Word) : decodeWindow cfg w =
    (if isShort cfg (w.extractLsb' 0 16) then decode16 (w.extractLsb' 0 16) else decode32 w).bind (checkConfig cfg) := by
  unfold decodeWindow
  dsimp only
  split
  · cases decode16 _ <;> rfl
  · cases decode32 _ <;> rfl

theorem decodeWindow_short_iff {w : Word} (hs : isShort cfg (w.extractLsb' 0 16) = true) :
    decodeWindow cfg w = .ok i ↔ Row16 i (w.extractLsb' 0 16) ∧ i.wellFormed cfg = true := by
  rw [decodeWindow_eq_bind, bind_checkConfig_eq_ok_iff, if_pos hs, decode16_eq_ok_iff, wellFormed_iff]
  exact and_congr_right fun row => by simp only [row.operands, and_true]

theorem decodeWindow_long_iff {w : Word} (hs : isShort cfg (w.extractLsb' 0 16) = false) :
    decodeWindow cfg w = .ok i ↔ Row32 i w ∧ i.wellFormed cfg = true := by
  rw [decodeWindow_eq_bind, bind_checkConfig_eq_ok_iff, hs, if_neg Bool.false_ne_true, decode32_eq_ok_iff, wellFormed_iff]
  exact and_congr_right fun row => by simp only [operandsOk_of_long row.long, and_true]

/-! ## Bytes of a configuration -/

variable {b0 b1 b2 b3 : Byte} {l rest : List Byte}

theorem decode_short_iff (hs : isShort cfg (half b0 b1) = true) : decode cfg (b0 :: b1 :: l) = .ok (i, rest) ↔
    Row16 i (half b0 b1) ∧ i.wellFormed cfg = true ∧ l = rest := by
  have window := decodeWindow_short_iff (i := i) (w := word4 b0 b1 0 0) (by rwa [word4_low])
  rw [word4_low] at window
  rw [← and_assoc, ← window]
  simp only [decode, hs, if_true]
  cases decodeWindow cfg (word4 b0 b1 0 0) <;> simp

theorem decode_long_iff (hs : isShort cfg (half b0 b1) = false) :
    decode cfg (b0 :: b1 :: b2 :: b3 :: l) = .ok (i, rest) ↔
    Row32 i (word4 b0 b1 b2 b3) ∧ i.wellFormed cfg = true ∧ l = rest := by
  have window := decodeWindow_long_iff (i := i) (w := word4 b0 b1 b2 b3) (by rwa [word4_low])
  rw [← and_assoc, ← window]
  simp only [decode, hs, Bool.false_eq_true, if_false]
  cases decodeWindow cfg (word4 b0 b1 b2 b3) <;> simp

theorem isShort_of_row16 (row : Row16 i (half b0 b1)) (wf : i.wellFormed cfg = true) : isShort cfg (half b0 b1) = true := by
  rw [isShort, rvc_of_wellFormed wf row.short, Bool.true_and, bne_iff_ne]
  exact row.quadrant

theorem isShort_of_row32 (row : Row32 i (word4 b0 b1 b2 b3)) : isShort cfg (half b0 b1) = false := by
  have q := row.quadrant
  rw [word4_low] at q
  rw [isShort, q, bne_self_eq_false, Bool.and_false]

theorem decode_encode (wf : i.wellFormed cfg = true) : decode cfg (encode i ++ rest) = .ok (i, rest) := by
  cases hc : i.isCompressed with
  | true =>
    obtain ⟨-, -, operands⟩ := wellFormed_iff.1 wf
    have row : Row16 i (half (byteOf i.bits 0) (byteOf i.bits 1)) :=
      ⟨hc, operands, by rw [Instr.bits, if_pos hc, half_byteOf]⟩
    rw [row.encode]
    exact (decode_short_iff (isShort_of_row16 row wf)).2 ⟨row, wf, rfl⟩
  | false =>
    have row : Row32 i (word4 (byteOf i.bits 0) (byteOf i.bits 1) (byteOf i.bits 2) (byteOf i.bits 3)) :=
      ⟨hc, by rw [word4_byteOf, Instr.bits, hc]; rfl⟩
    rw [row.encode]
    exact (decode_long_iff (isShort_of_row32 row)).2 ⟨row, wf, rfl⟩

theorem encode_of_decode {bytes : List Byte} (h : decode cfg bytes = .ok (i, rest)) :
    i.wellFormed cfg = true ∧ encode i ++ rest = bytes := by
  match bytes with
  | [] | [_] => cases h
  | b0 :: b1 :: l =>
    cases hs : isShort cfg (half b0 b1) with
    | true =>
      obtain ⟨row, wf, rfl⟩ := (decode_short_iff hs).1 h
      exact ⟨wf, by rw [row.encode]; rfl⟩
    | false =>
      match l with
      | [] | [_] =>
        simp only [decode, hs, Bool.false_eq_true, if_false] at h
        cases h
      | b2 :: b3 :: l =>
        obtain ⟨row, wf, rfl⟩ := (decode_long_iff hs).1 h
        exact ⟨wf, by rw [row.encode]; rfl⟩

end

/-- Settles O37: each table decodes exactly its rows (`decode16_eq_ok_iff`, `decode32_eq_ok_iff`), and the length that bits 1:0
of the first halfword announce is the length of the row. -/
theorem decodeEncodeAgree : Obligations.DecodeEncodeAgree :=
  fun _ _ _ => ⟨decode_encode, fun _ => encode_of_decode⟩

end Sys2Proof
end

section
/-! The upper immediates and the transfers of control: operands as bit strings, and the statements on LUI and AUIPC, on the
jumps and on the branches (O3, O8, O9). -/
namespace Sys2Proof.Machine

/-! ## Operands (R143, R151) -/

theorem uimm_eq_append (imm : BitVec 20) : uimm imm = imm ++ 0#12 := by
  apply BitVec.eq_of_toNat_eq
  have := imm.isLt
  rw [uimm, BitVec.toNat_ofNat, BitVec.toNat_append, Nat.shiftLeft_eq, BitVec.toNat_ofNat, Nat.zero_mod, Nat.or_zero]
  omega

/-- An offset in units of two bytes is the field with a zero bit below it, sign-extended. -/
theorem offset_eq_append {w : Nat} (off : BitVec w) :
    BitVec.ofInt 32 (off.toInt * 2) = (off ++ 0#1).signExtend 32 := by
  rw [BitVec.signExtend, BitVec.toInt_append_zero, Int.pow_one, Int.mul_comm]

/-! ## Jumps (R230 to R233) -/

/-- With the C extension every target is legal (R26). -/
theorem jumpTo_rvc {s : State} (h : s.debugMode = false) (hc : s.cfg.rvc = true) (rd : Reg) (len : Nat) (target : Word) :
    ∃ t, jumpTo s rd len target = .next t ∧ Jumps s t rd (s.pc + BitVec.ofNat 32 len) target :=
  (jumpTo_outcome h rd len target).1 (.inl hc)

/-- The Program Buffer has no pc to change (R539, D43). -/
theorem jumpTo_debug {s : State} (h : s.debugMode = true) (rd : Reg) (len : Nat) (target : Word) :
    jumpTo s rd len target = .refused .pcInProgramBuffer := by
  rw [jumpTo, if_pos h]

/-- x0 takes no link, so that any address stands for it. -/
theorem Jumps.unlinked {s t : State} {link target : Word} (h : Jumps s t 0 link target) (link' : Word) :
    Jumps s t 0 link' target where
  regs q := by rw [h.regs, if_neg (fun hq => hq.2 rfl), if_neg (fun hq => hq.2 rfl)]
  pc := h.pc
  seqWrap := h.seqWrap
  csr := h.csr
  sleeping := h.sleeping
  mode := h.mode
  units := h.units
  memory := h.memory

/-! ## Branches (R230, R231, R234 to R239) -/

/-- A branch whose model condition `b` is the condition `c` of its rule: it retires where `c` fails, and where `c` holds it
goes to a legal target, or is refused in the Program Buffer. -/
theorem branch_outcome {i : Instr} {s : State} {b : Bool} {off off' : Word} {len : Nat} {c : Prop}
    (result : exec i s = branchIf s b off len) (operand : off = off') (condition : b = true ↔ c) :
    (¬c → ∃ t, exec i s = .next t ∧ Retires s t len) ∧
    (c → s.debugMode = false → (s.cfg.rvc = true ∨ (s.pc + off').getLsbD 1 = false) →
      ∃ t, exec i s = .next t ∧ Jumps s t 0 0 (s.pc + off')) ∧
    (c → s.debugMode = true → exec i s = .refused .pcInProgramBuffer) := by
  subst operand
  rw [result]
  refine ⟨fun fails => ?_, fun holds running legal => ?_, fun holds halted => ?_⟩
  · have hb : b = false := Bool.eq_false_iff.2 (fun hb => fails (condition.1 hb))
    rw [hb]
    exact branchIf_not_taken s off len
  · rw [condition.2 holds, branchIf_taken]
    obtain ⟨t, ht, jumps⟩ := (jumpTo_outcome running 0 len _).1 legal
    exact ⟨t, ht, jumps.unlinked 0⟩
  · rw [condition.2 holds, branchIf_taken]
    exact jumpTo_debug halted ..

theorem ltSigned_iff (a b : Word) : ltSigned a b = true ↔ a.toInt < b.toInt := decide_eq_true_iff

theorem ltUnsigned_iff (a b : Word) : ltUnsigned a b = true ↔ a.toNat < b.toNat := decide_eq_true_iff

theorem not_ltSigned_iff (a b : Word) : (!ltSigned a b) = true ↔ b.toInt ≤ a.toInt := by
  rw [Bool.not_eq_true', Bool.eq_false_iff, ne_eq, ltSigned_iff, Int.not_lt]

theorem not_ltUnsigned_iff (a b : Word) : (!ltUnsigned a b) = true ↔ b.toNat ≤ a.toNat := by
  rw [Bool.not_eq_true', Bool.eq_false_iff, ne_eq, ltUnsigned_iff, Nat.not_lt]

/-! ## The statements -/

/-- Settles O3: both write one result back, the field above twelve zeros, but AUIPC reads the pc that the Program Buffer does
not have. -/
theorem upperImmediateResult : Obligations.UpperImmediateResult := by
  refine fun s rd imm => ⟨?lui, fun running => ?auipc, fun halted => ?refused⟩
  case lui => exact exec_completes rfl (uimm_eq_append imm)
  case auipc => exact exec_completes (if_neg (by simp [running])) (congrArg (s.pc + ·) (uimm_eq_append imm))
  case refused => exact if_pos halted

/-- Settles O8: all six are `jumpTo`, which goes to a legal target outside Debug Mode and is refused in it. -/
theorem jumpResult : Obligations.JumpResult := by
  intro s rd rs1 off coff imm
  refine ⟨fun running => ⟨fun legal => ?jal, fun legal => ?jalr, fun rvc => ⟨?cJ, ?cJal, ?cJr, ?cJalr⟩⟩,
    fun halted => ?refused⟩
  case jal =>
    rw [← offset_eq_append] at legal ⊢
    exact (jumpTo_outcome running rd 4 _).1 legal
  case jalr => exact (jumpTo_outcome running rd 4 _).1 legal
  case cJ =>
    rw [← offset_eq_append]
    exact jumpTo_rvc running rvc 0 2 _
  case cJal =>
    rw [← offset_eq_append]
    exact jumpTo_rvc running rvc 1 2 _
  case cJr => exact jumpTo_rvc running rvc 0 2 _
  case cJalr => exact jumpTo_rvc running rvc 1 2 _
  case refused =>
    simp only [List.forall_mem_cons]
    exact ⟨jumpTo_debug halted .., jumpTo_debug halted .., jumpTo_debug halted .., jumpTo_debug halted ..,
      jumpTo_debug halted .., jumpTo_debug halted .., List.forall_mem_nil _⟩

/-- Settles O9: every branch is `branchIf` on the condition of its rule. -/
theorem branchResult : Obligations.BranchResult := by
  intro s rs1 rs2 rs1c off coff
  have offset := offset_eq_append off
  have coffset := offset_eq_append coff
  refine ⟨?beq, ?bne, ?blt, ?bge, ?bltu, ?bgeu, ?cBeqz, ?cBnez⟩
  case beq => exact branch_outcome rfl offset beq_iff_eq
  case bne => exact branch_outcome rfl offset bne_iff_ne
  case blt => exact branch_outcome rfl offset (ltSigned_iff _ _)
  case bge => exact branch_outcome rfl offset (not_ltSigned_iff _ _)
  case bltu => exact branch_outcome rfl offset (ltUnsigned_iff _ _)
  case bgeu => exact branch_outcome rfl offset (not_ltUnsigned_iff _ _)
  case cBeqz =>
    rw [← regC_eq_append]
    exact branch_outcome rfl coffset beq_iff_eq
  case cBnez =>
    rw [← regC_eq_append]
    exact branch_outcome rfl coffset bne_iff_ne

end Sys2Proof.Machine
end

section
/-! The instructions that raise or end a run, and the statement on them (O17). -/
namespace Sys2Proof.Machine

/-- EBREAK in the Program Buffer ends the run (R553). -/
theorem breakpoint_debug {s : State} (h : s.debugMode = true) : breakpoint s = .next { s with pb := .ended } := by
  rw [breakpoint, if_pos h]

/-- EBREAK under ebreakm enters Debug Mode with cause 1 (R272). -/
theorem breakpoint_enters {s : State} (running : s.debugMode = false) (present : s.cfg.dbgEn = true)
    (ebreakm : s.dcsr.getLsbD 15 = true) : breakpoint s = .next (s.enterDebug causeEbreak s.pc) := by
  rw [breakpoint, if_neg (by simp [running]), if_pos (by simp [present, ebreakm])]

/-- Any other EBREAK is the breakpoint exception (R272). -/
theorem breakpoint_raises {s : State} (running : s.debugMode = false)
    (h : s.cfg.dbgEn = false ∨ s.dcsr.getLsbD 15 = false) :
    breakpoint s = raise s .breakpoint (if s.cfg.mtvalEbreakAddr then s.pc else 0) := by
  have noEntry : ¬ (s.cfg.dbgEn && s.dcsr.getLsbD 15) = true := by
    rcases h with h | h <;> simp only [h, Bool.false_and, Bool.and_false, Bool.false_eq_true, not_false_iff]
  rw [breakpoint, if_neg (by simp [running]), if_neg noEntry]

/-- Settles O17: ECALL and C.ILLEGAL are `raise`, ECALL and MRET ask for Debug Mode first, and both breakpoints are the three
branches of `breakpoint`. -/
theorem systemTraps : Obligations.SystemTraps := by
  refine fun s => ⟨fun running => ⟨?ecall, raise_traps running .illegal 0⟩, fun halted => ⟨if_pos halted, if_pos halted⟩,
    ?ebreaks⟩
  case ecall =>
    have raises : exec .ecall s = raise s .ecallM 0 := if_neg (by simp [running])
    rw [raises]
    exact raise_traps running .ecallM 0
  case ebreaks =>
    intro i hi
    have meaning : exec i s = breakpoint s := by
      simp only [List.mem_cons, List.not_mem_nil, or_false] at hi
      rcases hi with rfl | rfl <;> rfl
    rw [meaning]
    refine ⟨breakpoint_debug, fun running present ebreakm => ?_, fun running h => ?_⟩
    · exact ⟨_, breakpoint_enters running present ebreakm, enterDebug_enters s _ _⟩
    · rw [breakpoint_raises running h]
      exact raise_traps running .breakpoint _

end Sys2Proof.Machine
end

section
/-! The CSR map and the registers that no instruction writes: the bits of words that are put together from flags, and the
statements on the map (O30) and on the values after reset (O43). -/
namespace Sys2Proof.Machine

/-! ## Words made of flags -/

theorem getLsbD_bitAt (b : Bool) {k : Nat} (hk : k < 32) (j : Nat) : (bitAt b k).getLsbD j = (b && decide (k = j)) := by
  cases b
  · exact BitVec.getLsbD_zero
  · have power : bitAt true k = BitVec.twoPow 32 k := BitVec.eq_of_toNat_eq (BitVec.toNat_twoPow 32 k).symm
    rw [power, BitVec.getLsbD_twoPow]
    simp [hk]

/-- MISA bit by bit (R35). -/
theorem misa_getLsbD (cfg : Config) (k : Nat) : (misa cfg).getLsbD k =
    (k == 30 || (k == 2 && cfg.rvc) || (k == 4 && cfg.rve) || (k == 8 && !cfg.rve) || (k == 12 && cfg.rvm) ||
      (k == 23 && cfg.misaRvx)) := by
  have mxl : (0x40000000 : Word) = bitAt true 30 := rfl
  simp only [misa, mxl, BitVec.getLsbD_or, getLsbD_bitAt, Nat.reduceLT, Bool.true_and, Bool.and_comm, eq_comm (b := k),
    beq_eq_decide]

/-- The three bits of MIP (R42). -/
theorem State.mip_bits (s : State) :
    s.mip.getLsbD 3 = s.msip ∧ s.mip.getLsbD 7 = s.mtip ∧ s.mip.getLsbD 11 = s.meip := by
  simp only [State.mip, BitVec.getLsbD_or, getLsbD_bitAt, Nat.reduceLT, Nat.reduceEqDiff, decide_true, decide_false,
    Bool.and_true, Bool.and_false, Bool.or_false, Bool.false_or, and_self]

theorem State.mip_reserved (s : State) : s.mip &&& ~~~0x888 = 0 := by
  unfold State.mip
  cases s.msip <;> cases s.mtip <;> cases s.meip <;> decide

/-! ## The map (R30, R46) -/

/-- The addresses of the map, by the condition under which each exists. -/
theorem csrExists_iff (s : State) (a : BitVec 12) : csrExists s a = true ↔
    a.toNat ∈ [0xC01, 0xC81, 0xF11, 0xF12, 0xF13, 0xF14, 0x300, 0x301, 0x304, 0x305, 0x340, 0x341, 0x342, 0x343, 0x344] ∨
    (a.toNat ∈ [0xC00, 0xC02, 0xC80, 0xC82, 0xB00, 0xB02, 0xB80, 0xB82] ∧ hasCounters s.cfg = true) ∨
    (a = 0x7E0 ∧ hasMcounten s.cfg = true) ∨
    (a.toNat ∈ [0x7A0, 0x7A1, 0x7A2, 0x7A4] ∧ s.cfg.dbgEn = true ∧ s.cfg.tduEn = true) ∨
    (a.toNat ∈ [0x7B0, 0x7B1, 0x7B2] ∧ s.cfg.dbgEn = true ∧ s.debugMode = true) ∨
    (0xBF0 ≤ a.toNat ∧ a.toNat ≤ 0xBF7 ∧ s.cfg.ipicEn = true) := by
  have mcounten : a = 0x7E0 ↔ a.toNat = 0x7E0 := BitVec.toNat_inj.symm
  rw [mcounten]
  unfold csrExists
  generalize a.toNat = n
  split
  case h_40 =>
    simp only [imp_false] at *
    refine iff_of_false Bool.false_ne_true ?_
    simp only [List.mem_cons, List.not_mem_nil, or_false]
    omega
  all_goals simp

/-! ## The statements -/

/-- TINFO tells the type of the selected trigger (R575). -/
theorem readTinfo_eq {s : State} {x : Trigger} (h : s.triggers[s.tselect.toNat]? = some x) :
    (x.tdata1.extractLsb' 28 4 = 2#4 → readTinfo s = 0x4) ∧ (x.tdata1.extractLsb' 28 4 = 3#4 → readTinfo s = 0x8) := by
  have hs : selected s = some x := h
  constructor <;> intro ht <;>
    simp [readTinfo, hs, Trigger.isMcontrol, Trigger.isIcount, Trigger.type, ht]

/-- Settles O30: the map by the addresses that `csrExists` matches, MISA and MIP bit by bit; the other registers are read from
the fields that their rules name. -/
theorem csrMapAndReadOnlyValues : Obligations.CsrMapAndReadOnlyValues := by
  intro s csr
  have mip : csrRead s 0x344 = s.mip := rfl
  obtain ⟨msip, mtip, meip⟩ := s.mip_bits
  refine ⟨csrExists_iff s csr, fun k _ => misa_getLsbD s.cfg k, rfl, rfl, rfl, rfl, rfl, rfl, rfl, rfl, rfl, rfl,
    fun x hx => readTinfo_eq hx, fun hnone => ?noTrigger, ?msip, ?mtip, fun ipic => ?meip, fun noIpic => ?pin, s.mip_reserved⟩
  case noTrigger =>
    have hs : selected s = none := hnone
    show readTinfo s = 0x1
    rw [readTinfo, hs]
  case msip => exact msip
  case mtip => rw [mip, mtip, State.mtip, decide_eq_true_iff]
  case meip => rw [mip, meip, State.meip, if_pos ipic, Ipic.request, decide_eq_true_iff, Ipic.candidate, Ipic.cisv]
  case pin => rw [mip, meip, State.meip, if_neg (by simp [noIpic])]

/-- Settles O43: the reset state is a literal; MIP shows the timer alone, whose comparison holds of two zeros. -/
theorem resetValues : Obligations.ResetValues := by
  have regs : ∀ r, State.reset.getReg r = 0 := by decide
  have mip : csrRead State.reset 0x344 = 0x80 := by decide
  exact ⟨rfl, regs, rfl, rfl, rfl, rfl, rfl, rfl, rfl, rfl, rfl, rfl, rfl, rfl, rfl, rfl, mip, rfl⟩

end Sys2Proof.Machine
end

section
/-! The Debug Module Interface: the step that is a DMI access of a machine that no reset holds, and the statements on the
registers that it reads (O48) and writes (O49). -/
namespace Sys2Proof.Machine

/-! ## Events that raise no reset (R511, R643) -/

theorem coreReset_congr {s t : State} (pins : t.pins = s.pins) (scu : t.scu = s.scu)
    (ndmreset : t.dm.ndmreset = s.dm.ndmreset) : t.coreReset = s.coreReset := by
  simp only [State.coreReset, State.sysReset, pins, scu, ndmreset]

theorem tapReset_congr {s t : State} (pins : t.pins = s.pins) : t.tapReset = s.tapReset := by
  simp only [State.tapReset, pins]

theorem ndmreset_of_noReset {s : State} (h : s.coreReset = false) : s.dm.ndmreset = false := by
  obtain ⟨-, -, ndmreset, -⟩ := coreReset_false.1 h
  exact ndmreset

/-- An event that leaves the sources of the resets as they are, on a machine that no reset holds, is its effect and the
clock. -/
theorem step_event_quiet {s t : State} {e : HostEvent} {rest : List HostEvent} (h : s.inputs = e :: rest) (he : e ≠ .run)
    (noReset : s.coreReset = false) (noTapReset : s.tapReset = false)
    (ht : eventEffect { s with inputs := rest } e = .next t) (pins : t.pins = s.pins) (scu : t.scu = s.scu)
    (ndmreset : t.dm.ndmreset = s.dm.ndmreset) : step s = .next t.tick :=
  step_event_next h he noReset ht ((coreReset_congr pins scu ndmreset).trans noReset)
    ((tapReset_congr pins).trans noTapReset)

/-- The debugger, and what it was sent, stand apart from the hart. -/
theorem sameHart_debugger (s : State) (dm : Dm) (tap : Tap) (inputs : List HostEvent) :
    SameHart s { s with dm := dm, tap := tap, inputs := inputs } :=
  ⟨fun _ => rfl, rfl, rfl, rfl, rfl, ⟨rfl, rfl, rfl, rfl, rfl⟩, ⟨fun _ => rfl, rfl⟩, rfl, rfl, rfl, rfl, rfl, rfl, rfl⟩

/-! ## The step that is a DMI access (R520, R521) -/

/-- The debugger reaches the DMI, whether or not the Debug Module behind it is active (R522, R532). -/
structure State.DmiReady (s : State) : Prop where
  present : s.cfg.dbgEn = true
  noReset : s.coreReset = false
  noTapReset : s.tapReset = false

theorem State.DmReady.dmi {s : State} (h : s.DmReady) : s.DmiReady := ⟨h.present, h.noReset, h.noTapReset⟩

section
variable {s t : State} {rest : List HostEvent} {a : BitVec 7} {v : Word} {r : Refusal}

theorem State.DmiReady.step_read (hs : s.DmiReady) (h : s.inputs = .dmiRead a :: rest)
    (ht : dmiRead { s with inputs := rest } a = .next t) (pins : t.pins = s.pins) (scu : t.scu = s.scu)
    (ndmreset : t.dm.ndmreset = s.dm.ndmreset) : step s = .next t.tick :=
  step_event_quiet h (by simp) hs.noReset hs.noTapReset ((if_pos hs.present).trans ht) pins scu ndmreset

theorem State.DmiReady.step_read_refused (hs : s.DmiReady) (h : s.inputs = .dmiRead a :: rest)
    (hr : dmiRead { s with inputs := rest } a = .refused r) : step s = .refused r :=
  step_event_refused h (by simp) ((if_pos hs.present).trans hr)

theorem State.DmiReady.step_write (hs : s.DmiReady) (h : s.inputs = .dmiWrite a v :: rest)
    (ht : dmiWrite { s with inputs := rest } a v = .next t) (pins : t.pins = s.pins) (scu : t.scu = s.scu)
    (ndmreset : t.dm.ndmreset = s.dm.ndmreset) : step s = .next t.tick :=
  step_event_quiet h (by simp) hs.noReset hs.noTapReset ((if_pos hs.present).trans ht) pins scu ndmreset

theorem State.DmiReady.step_write_refused (hs : s.DmiReady) (h : s.inputs = .dmiWrite a v :: rest)
    (hr : dmiWrite { s with inputs := rest } a v = .refused r) : step s = .refused r :=
  step_event_refused h (by simp) ((if_pos hs.present).trans hr)

end

/-! ## Reads (R521, R526, R528) -/

/-- The registers that an access while a command executes makes an error of, read or written (R526). -/
theorem busyGuarded_data {a : BitVec 7} (h : a = 0x04 ∨ a = 0x05 ∨ (0x20 ≤ a.toNat ∧ a.toNat ≤ 0x25)) (write : Bool) :
    busyGuarded a.toNat write = true := by
  rcases h with rfl | rfl | ⟨low, high⟩
  · rfl
  · rfl
  · generalize a.toNat = n at low high ⊢
    interval_cases n <;> rfl

/-- The addresses of the Debug Module; the others are Reserved (R521). -/
theorem dmValue_isNone_iff {s : State} {n : Nat} : (dmValue s n).isNone = true ↔
    n ∉ [0x04, 0x05, 0x10, 0x11, 0x12, 0x16, 0x17, 0x18, 0x20, 0x21, 0x22, 0x23, 0x24, 0x25, 0x40] := by
  unfold dmValue
  split
  case h_16 =>
    simp only [imp_false] at *
    simp [*]
  all_goals simp

theorem dmValue_known {s : State} {n : Nat}
    (h : n ∈ [0x04, 0x05, 0x10, 0x11, 0x12, 0x16, 0x17, 0x18, 0x20, 0x21, 0x22, 0x23, 0x24, 0x25, 0x40]) :
    (dmValue s n).isNone = false := by
  rw [← Bool.not_eq_true, dmValue_isNone_iff, not_not]
  exact h

/-- The words of PROGBUF have an address each (R529). -/
theorem dmValue_progbuf {s : State} {n : Nat} (low : 0x20 ≤ n) (high : n ≤ 0x25) : (dmValue s n).isNone = false := by
  apply dmValue_known
  simp only [List.mem_cons, List.not_mem_nil, or_false]
  omega

/-- An access of DATA starts no command where ABSTRACTAUTO does not ask for one (R528). -/
theorem autoexec_off {s : State} {k : Nat} (h : s.dm.autoexec.getLsbD k = false) : autoexec s k = .next s := by
  rw [autoexec, h]
  rfl

/-- A read of a register that no command executing guards, and that starts none, answers its value and changes nothing but
what the next DMI capture reports. -/
theorem dmiRead_value {s : State} {a : BitVec 7} {v : Word} (noReset : s.coreReset = false)
    (hv : dmValue s a.toNat = some v) (free : (s.dm.busy && busyGuarded a.toNat false) = false)
    (auto0 : a = 0x04 → s.dm.autoexec.getLsbD 0 = false) (auto1 : a = 0x05 → s.dm.autoexec.getLsbD 1 = false) :
    dmiRead s a = .next (s.setDmi a v) := by
  unfold dmiRead
  rw [if_neg (by simp [noReset]), hv]
  dsimp only
  rw [if_neg (by simp [free])]
  split
  · next first =>
    rw [Bool.and_eq_true, beq_iff_eq] at first
    exact autoexec_off (auto0 first.2)
  · split
    · next second =>
      rw [Bool.and_eq_true, beq_iff_eq] at second
      exact autoexec_off (auto1 second.2)
    · rfl

/-- While a command executes, a read of DATA or PROGBUF is an error (R526). -/
theorem dmiRead_busy {s : State} {a : BitVec 7} (noReset : s.coreReset = false) (busy : s.dm.busy = true)
    (ha : a = 0x04 ∨ a = 0x05 ∨ (0x20 ≤ a.toNat ∧ a.toNat ≤ 0x25)) (known : (dmValue s a.toNat).isNone = false) :
    dmiRead s a = .next (s.setDmi a (Config.freeWord s.freeCtr .dmiData)).busyError := by
  obtain ⟨v, hv⟩ := Option.isSome_iff_exists.1 (Option.isNone_eq_false_iff.1 known)
  unfold dmiRead
  rw [if_neg (by simp [noReset]), hv]
  exact if_pos (by rw [busy, busyGuarded_data ha]; rfl)

/-- A Reserved address (R521, D28). -/
theorem dmiRead_reserved {s : State} {a : BitVec 7} (noReset : s.coreReset = false)
    (unknown : (dmValue s a.toNat).isNone = true) : dmiRead s a = .refused .dmiReservedAddress := by
  have hv : dmValue s a.toNat = none := Option.isNone_iff_eq_none.1 unknown
  unfold dmiRead
  rw [if_neg (by simp [noReset]), hv]

/-- cmderr after an access that a command executing makes an error of (R526). -/
theorem State.busyError_eq (s : State) :
    s.busyError = { s with dm := { s.dm with cmderr := if s.dm.cmderr = 0 then 1 else s.dm.cmderr } } := by
  unfold State.busyError
  split <;> rfl

section
variable {s : State} {rest : List HostEvent} {a : BitVec 7}

/-- The step that reads the register `v`. -/
theorem State.DmReady.reads (hs : s.DmReady) (h : s.inputs = .dmiRead a :: rest) {v : Word}
    (hv : dmValue s a.toNat = some v) (free : (s.dm.busy && busyGuarded a.toNat false) = false)
    (auto0 : a = 0x04 → s.dm.autoexec.getLsbD 0 = false) (auto1 : a = 0x05 → s.dm.autoexec.getLsbD 1 = false) :
    ∃ u : State, step s = .next u.tick ∧ u.tap.dmiAddr = a ∧ u.tap.dmiData = v ∧
      { u with tap := s.tap, inputs := s.inputs } = s :=
  ⟨_, hs.dmi.step_read h (dmiRead_value hs.noReset hv free auto0 auto1) rfl rfl rfl, rfl, rfl, rfl⟩

/-- The step that reads a register which neither a command executing guards nor an access executes a command for. -/
theorem State.DmReady.reads_plain (hs : s.DmReady) (h : s.inputs = .dmiRead a :: rest) {v : Word}
    (hv : dmValue s a.toNat = some v) (plain : busyGuarded a.toNat false = false) :
    ∃ u : State, step s = .next u.tick ∧ u.tap.dmiAddr = a ∧ u.tap.dmiData = v ∧
      { u with tap := s.tap, inputs := s.inputs } = s := by
  refine hs.reads h hv (by rw [plain, Bool.and_false]) ?_ ?_ <;>
  · rintro rfl
    exact absurd plain (by decide)

end

theorem bitAt_eq_shiftLeft (b : Bool) (k : Nat) : bitAt b k = if b then 1#32 <<< k else 0 := by
  rw [← BitVec.twoPow_eq]
  cases b
  · rfl
  · exact BitVec.eq_of_toNat_eq (BitVec.toNat_twoPow 32 k).symm

/-- DMCONTROL, but for the bit that D44 leaves open (R522). -/
theorem readDmcontrol_known (s : State) :
    readDmcontrol s &&& 0x7FFFFFFF = bitAt s.dm.dmactive 0 ||| bitAt s.dm.ndmreset 1 := by
  have apart : (0x80000000 : Word) &&& 0x7FFFFFFF = 0#32 := rfl
  have flags (b c : Bool) : (bitAt b 0 ||| bitAt c 1) &&& 0x7FFFFFFF = bitAt b 0 ||| bitAt c 1 := by
    cases b <;> cases c <;> rfl
  rw [readDmcontrol, BitVec.and_or_distrib_right, flags, BitVec.and_assoc, apart, BitVec.and_zero, BitVec.or_zero]

/-- ABSTRACTCS.cmderr stands at bits 10:8 (R526). -/
theorem cmderr_field (e : BitVec 3) : BitVec.ofNat 32 (e.toNat * 256) = e.setWidth 32 <<< 8 := by
  revert e
  decide

/-- Settles O48: each address answers the value that `dmValue` gives it, unless a command executing guards it or the address is
Reserved. -/
theorem dmRegisterReads : Obligations.DmRegisterReads := by
  intro s rest a h hs reads bit
  have bits (b : Bool) (k : Nat) : bit b k = bitAt b k := (bitAt_eq_shiftLeft b k).symm
  refine ⟨fun idle => ⟨?data0, ?data1, ?progbuf⟩, ?dmcontrol, ?dmstatus, ?hartinfo, ?abstractcs, ?abstractauto, ?haltsum,
    fun busy guarded => ?busy, fun reserved => ?reserved⟩
  case data0 =>
    rintro rfl off
    exact hs.reads h rfl (by rw [idle]; rfl) (fun _ => off) (by simp)
  case data1 =>
    rintro rfl off
    exact hs.reads h rfl (by rw [idle]; rfl) (by simp) (fun _ => off)
  case progbuf =>
    intro k ha
    have apart : a ≠ 0x04 ∧ a ≠ 0x05 := by constructor <;> rintro rfl <;> simp at ha <;> omega
    refine hs.reads h ?_ (by rw [idle]; rfl) (fun h4 => absurd h4 apart.1) (fun h5 => absurd h5 apart.2)
    rw [ha]
    fin_cases k <;> rfl
  case dmcontrol =>
    rintro rfl
    refine ⟨_, hs.reads_plain h rfl rfl, ?_⟩
    rw [bits, bits]
    exact readDmcontrol_known s
  case dmstatus =>
    rintro rfl
    simp only [bits]
    exact hs.reads_plain h rfl rfl
  case hartinfo =>
    rintro rfl
    exact hs.reads_plain h rfl rfl
  case abstractcs =>
    rintro rfl
    rw [bits, ← cmderr_field]
    exact hs.reads_plain h rfl rfl
  case abstractauto =>
    rintro rfl
    exact hs.reads_plain h rfl rfl
  case haltsum =>
    rintro rfl
    rw [bits]
    exact hs.reads_plain h rfl rfl
  case busy =>
    have known : (dmValue { s with inputs := rest } a.toNat).isNone = false := by
      rcases guarded with rfl | rfl | ⟨low, high⟩
      · exact dmValue_known (by decide)
      · exact dmValue_known (by decide)
      · exact dmValue_progbuf low high
    have answer := dmiRead_busy (s := { s with inputs := rest }) hs.noReset busy guarded known
    rw [State.busyError_eq] at answer
    exact ⟨_, hs.dmi.step_read h answer rfl rfl rfl, sameHart_debugger s _ _ rest, rfl⟩
  case reserved =>
    have unknown : (dmValue { s with inputs := rest } a.toNat).isNone = true :=
      dmValue_isNone_iff.2 reserved
    exact hs.dmi.step_read_refused h (dmiRead_reserved (s := { s with inputs := rest }) hs.noReset unknown)

/-! ## Writes (R521 to R529) -/

/-- The state on which the access writes a register of the Debug Module: what the next DMI capture reports is set (R506). -/
def State.dmiStart (s : State) (rest : List HostEvent) (a : BitVec 7) : State :=
  ({ s with inputs := rest } : State).setDmi a (Config.freeWord s.freeCtr .dmiData)

section
variable {s t : State} {rest : List HostEvent} {a : BitVec 7} {v : Word}

/-- A write of a register that no command executing guards, the module being active. -/
theorem State.DmReady.dmiWrite_eq (hs : s.DmReady) (rest : List HostEvent) (other : a ≠ 0x10)
    (known : (dmValue s a.toNat).isNone = false) (free : (s.dm.busy && busyGuarded a.toNat true) = false) :
    dmiWrite { s with inputs := rest } a v = writeDm (s.dmiStart rest a) a.toNat v := by
  have noReset : ({ s with inputs := rest } : State).coreReset = false := hs.noReset
  have known' : (dmValue { s with inputs := rest } a.toNat).isNone = false := known
  unfold dmiWrite
  dsimp only
  rw [if_neg other, if_neg (by simp [noReset]), if_neg (by simp only [known', Bool.false_eq_true, not_false_iff]),
    if_neg (by simp [free]), if_pos hs.active]
  rfl

theorem State.DmReady.step_writeDm (hs : s.DmReady) (h : s.inputs = .dmiWrite a v :: rest) (other : a ≠ 0x10)
    (known : (dmValue s a.toNat).isNone = false) (free : (s.dm.busy && busyGuarded a.toNat true) = false)
    (ht : writeDm (s.dmiStart rest a) a.toNat v = .next t) (pins : t.pins = s.pins) (scu : t.scu = s.scu)
    (ndmreset : t.dm.ndmreset = s.dm.ndmreset) : step s = .next t.tick :=
  hs.dmi.step_write h ((hs.dmiWrite_eq rest other known free).trans ht) pins scu ndmreset

theorem State.DmReady.step_writeDm_refused {r : Refusal} (hs : s.DmReady) (h : s.inputs = .dmiWrite a v :: rest)
    (other : a ≠ 0x10) (known : (dmValue s a.toNat).isNone = false)
    (free : (s.dm.busy && busyGuarded a.toNat true) = false)
    (hr : writeDm (s.dmiStart rest a) a.toNat v = .refused r) : step s = .refused r :=
  hs.dmi.step_write_refused h ((hs.dmiWrite_eq rest other known free).trans hr)

/-- A write that changes only the Debug Module leaves the hart as it was. -/
theorem State.DmReady.leaves (hs : s.DmReady) (h : s.inputs = .dmiWrite a v :: rest) (other : a ≠ 0x10)
    (known : (dmValue s a.toNat).isNone = false) (free : (s.dm.busy && busyGuarded a.toNat true) = false) {d : Dm}
    (ht : writeDm (s.dmiStart rest a) a.toNat v = .next { s.dmiStart rest a with dm := d })
    (ndmreset : d.ndmreset = s.dm.ndmreset) : ∃ u : State, step s = .next u.tick ∧ u.dm = d ∧ SameHart s u :=
  ⟨_, hs.step_writeDm h other known free ht rfl rfl ndmreset, rfl, sameHart_debugger s d (s.dmiStart rest a).tap rest⟩

/-- While a command executes, a write of a register that it guards is an error and changes no register (R526, R529). -/
theorem State.DmReady.leaves_busy (hs : s.DmReady) (h : s.inputs = .dmiWrite a v :: rest) (other : a ≠ 0x10)
    (known : (dmValue s a.toNat).isNone = false) (busy : s.dm.busy = true) (guarded : busyGuarded a.toNat true = true) :
    ∃ u : State, step s = .next u.tick ∧ u.dm = { s.dm with cmderr := if s.dm.cmderr = 0 then 1 else s.dm.cmderr } ∧
      SameHart s u := by
  have noReset : ({ s with inputs := rest } : State).coreReset = false := hs.noReset
  have known' : (dmValue { s with inputs := rest } a.toNat).isNone = false := known
  have answer : dmiWrite { s with inputs := rest } a v = .next (s.dmiStart rest a).busyError := by
    unfold dmiWrite
    dsimp only
    rw [if_neg other, if_neg (by simp [noReset]), if_neg (by simp only [known', Bool.false_eq_true, not_false_iff]),
      if_pos (by simp [busy, guarded])]
    rfl
  rw [State.busyError_eq] at answer
  exact ⟨_, hs.dmi.step_write h answer rfl rfl rfl, rfl, sameHart_debugger s _ _ rest⟩

/-- A Reserved address (R521, D28). -/
theorem State.DmReady.write_reserved (hs : s.DmReady) (h : s.inputs = .dmiWrite a v :: rest) (other : a ≠ 0x10)
    (unknown : (dmValue s a.toNat).isNone = true) : step s = .refused .dmiReservedAddress := by
  have noReset : ({ s with inputs := rest } : State).coreReset = false := hs.noReset
  have unknown' : (dmValue { s with inputs := rest } a.toNat).isNone = true := unknown
  refine hs.dmi.step_write_refused h ?_
  unfold dmiWrite
  dsimp only
  rw [if_neg other, if_neg (by simp [noReset]), if_pos unknown']

/-- While dmactive is 0 only DMCONTROL is written (R522). -/
theorem State.DmiReady.leaves_inactive (hs : s.DmiReady) (h : s.inputs = .dmiWrite a v :: rest) (other : a ≠ 0x10)
    (known : (dmValue s a.toNat).isNone = false) (inactive : s.dm.dmactive = false) (idle : s.dm.busy = false) :
    ∃ u : State, step s = .next u.tick ∧ u.dm = s.dm ∧ SameHart s u := by
  have noReset : ({ s with inputs := rest } : State).coreReset = false := hs.noReset
  have known' : (dmValue { s with inputs := rest } a.toNat).isNone = false := known
  have answer : dmiWrite { s with inputs := rest } a v = .next (s.dmiStart rest a) := by
    unfold dmiWrite
    dsimp only
    rw [if_neg other, if_neg (by simp [noReset]), if_neg (by simp only [known', Bool.false_eq_true, not_false_iff]),
      if_neg (by simp [idle]), if_neg (by simp [inactive])]
    rfl
  exact ⟨_, hs.step_write h answer rfl rfl rfl, rfl, sameHart_debugger s _ _ rest⟩

/-- A word of PROGBUF takes the value (R529). -/
theorem writeDm_progbuf (s : State) (k : Fin 6) (v : Word) : writeDm s (0x20 + k.val) v =
    .next { s with dm := { s.dm with progbuf := s.dm.progbuf.set k v } } := by
  have inBounds : s.dm.progbuf.setIfInBounds k v = s.dm.progbuf.set k v :=
    Vector.ext fun j hj => by rw [Vector.getElem_setIfInBounds, Vector.getElem_set]
  rw [← inBounds]
  fin_cases k <;> rfl

/-- A write of DMCONTROL. -/
theorem dmiWrite_dmcontrol (s : State) (rest : List HostEvent) (v : Word) :
    dmiWrite { s with inputs := rest } 0x10 v = writeDmcontrol (s.dmiStart rest 0x10) v := rfl

end

/-- The register that a write of ABSTRACTCS leaves of cmderr: a 1 clears its bit (R526). -/
theorem cmderr_cleared (e : BitVec 3) (v : Word) (k : Fin 3) :
    (e &&& ~~~(v.extractLsb' 8 3)).getLsbD k.val = (e.getLsbD k.val && !v.getLsbD (8 + k.val)) := by
  simp only [BitVec.getLsbD_and, BitVec.getLsbD_not, BitVec.getLsbD_extractLsb', k.isLt, decide_true, Bool.true_and]

/-- Settles O49: each address is the register that `writeDm` writes, unless a command executing guards it, the module is not
active or the address is Reserved. -/
theorem dmRegisterWrites : Obligations.DmRegisterWrites := by
  intro s rest a v h leaves
  refine ⟨fun hs => ⟨fun idle => ⟨?data0, ?data1, ?progbuf, ?abstractcs, ?abstractauto⟩, ?readOnly, fun busy guarded => ?busy,
    fun reserved => ?reserved⟩, fun present noReset noTapReset inactive idle => ⟨fun known => ?inactive, ?activate⟩⟩
  case data0 =>
    rintro rfl off
    exact hs.leaves h (by decide) rfl (by simp [idle]) (autoexec_off off) rfl
  case data1 =>
    rintro rfl off
    exact hs.leaves h (by decide) rfl (by simp [idle]) (autoexec_off off) rfl
  case progbuf =>
    intro k ha
    have other : a ≠ 0x10 := by
      rintro rfl
      exact absurd ha (by simp; omega)
    refine hs.leaves h other (dmValue_progbuf (by omega) (by omega)) (by simp [idle]) ?_ rfl
    rw [ha]
    exact writeDm_progbuf _ k v
  case abstractcs =>
    rintro rfl
    exact ⟨_, hs.leaves h (by decide) rfl (by simp [idle]) rfl rfl, cmderr_cleared _ _⟩
  case abstractauto =>
    rintro rfl
    exact hs.leaves h (by decide) rfl (by simp [idle]) rfl rfl
  case readOnly =>
    rintro (rfl | rfl | rfl) <;> exact hs.leaves h (by decide) rfl (Bool.and_false _) rfl rfl
  case busy =>
    rcases guarded with rfl | rfl | rfl | rfl | rfl | ⟨low, high⟩
    case inr.inr.inr.inr.inr =>
      have other : a ≠ 0x10 := by
        rintro rfl
        exact absurd low (by decide)
      exact hs.leaves_busy h other (dmValue_progbuf low high) busy (busyGuarded_data (.inr (.inr ⟨low, high⟩)) true)
    all_goals exact hs.leaves_busy h (by decide) rfl busy rfl
  case reserved =>
    refine hs.write_reserved h ?_ (dmValue_isNone_iff.2 reserved)
    rintro rfl
    exact reserved (by decide)
  case inactive =>
    have hs : s.DmiReady := ⟨present, noReset, noTapReset⟩
    have other : a ≠ 0x10 := by
      rintro rfl
      exact absurd known (by decide)
    have known' : (dmValue s a.toNat).isNone = false := by
      apply dmValue_known
      simp only [List.mem_cons, List.not_mem_nil, or_false] at known ⊢
      omega
    exact hs.leaves_inactive h other known' inactive idle
  case activate =>
    rintro rfl activates
    have hs : s.DmiReady := ⟨present, noReset, noTapReset⟩
    have answer : writeDmcontrol (s.dmiStart rest 0x10) v =
        .next { s.dmiStart rest 0x10 with dm := { Dm.reset with dmactive := true } } := by
      have inactive' : (s.dmiStart rest 0x10).dm.dmactive = false := inactive
      rw [writeDmcontrol, if_neg (by simp only [activates, Bool.not_true, Bool.false_eq_true, not_false_iff]),
        if_pos (by simp only [inactive', Bool.not_false])]
    exact ⟨_, hs.step_write h answer rfl rfl (ndmreset_of_noReset noReset).symm, rfl, sameHart_debugger s _ _ rest⟩

end Sys2Proof.Machine
end

section
/-! DMCONTROL: what a write makes of its fields, the reset that ndmreset raises, and the statement on its writes (O47). -/
namespace Sys2Proof.Machine

/-! ## The fields (R522, R531) -/

/-- The fields after a write that leaves the module active: resumereq without haltreq clears the acknowledgement (R531). -/
def Dm.controlled (d : Dm) (v : Word) : Dm :=
  { d with
    ndmreset := v.getLsbD 1
    haltreq := v.getLsbD 31
    havereset := d.havereset && !v.getLsbD 28
    resumeack := d.resumeack && !(v.getLsbD 30 && !v.getLsbD 31) }

/-- Where no reset was asserted, ndmreset alone asserts one (R511, R643). -/
theorem coreReset_controlled {s : State} (h : s.coreReset = false) (v : Word) :
    ({ s with dm := s.dm.controlled v } : State).coreReset = v.getLsbD 1 := by
  obtain ⟨pwrup, rst, -, sys, cpu, core⟩ := coreReset_false.1 h
  simp only [State.coreReset, State.sysReset, pwrup, rst, sys, cpu, core, Dm.controlled, Bool.false_or, Bool.or_false]

section
variable {s : State} {v : Word}

/-- dmactive 0 resets the module (R522). -/
theorem writeDmcontrol_inactive (h : v.getLsbD 0 = false) : writeDmcontrol s v = .next { s with dm := Dm.reset } := by
  rw [writeDmcontrol, if_pos (by rw [h]; rfl)]

/-- While a command executes, a request is refused (R533). -/
theorem writeDmcontrol_refused (on : v.getLsbD 0 = true) (active : s.dm.dmactive = true) (busy : s.dm.busy = true)
    (requests : (v.getLsbD 31 || v.getLsbD 30 || v.getLsbD 28) = true) :
    writeDmcontrol s v = .refused .dmRequestDuringCommand := by
  rw [writeDmcontrol, if_neg (by rw [on]; simp), if_neg (by simp [active]), if_pos (by rw [busy, requests]; rfl)]

/-- Any other write sets the fields; a halted hart that no reset holds and that does not wait then resumes where it is asked to
(R531, R541). -/
theorem writeDmcontrol_active (noReset : s.coreReset = false) (on : v.getLsbD 0 = true) (active : s.dm.dmactive = true)
    (free : s.dm.busy = false ∨ (v.getLsbD 31 || v.getLsbD 30 || v.getLsbD 28) = false) :
    writeDmcontrol s v =
      if (v.getLsbD 30 && !v.getLsbD 31) && s.debugMode && !v.getLsbD 1 && !s.waiting then
        State.resume { s with dm := s.dm.controlled v }
      else .next { s with dm := s.dm.controlled v } := by
  have noRefusal : ¬ (s.dm.busy && (v.getLsbD 31 || v.getLsbD 30 || v.getLsbD 28)) = true := by
    rcases free with h | h <;> rw [h] <;> simp
  rw [← coreReset_controlled noReset v, writeDmcontrol, if_neg (by rw [on]; simp), if_neg (by simp [active]),
    if_neg noRefusal]
  rfl

/-- The write that resumes the hart. -/
theorem writeDmcontrol_resumes (noReset : s.coreReset = false) (on : v.getLsbD 0 = true) (active : s.dm.dmactive = true)
    (free : s.dm.busy = false ∨ (v.getLsbD 31 || v.getLsbD 30 || v.getLsbD 28) = false) (quiet : v.getLsbD 1 = false)
    (resumes : ((v.getLsbD 30 && !v.getLsbD 31) && s.debugMode && !s.waiting) = true) :
    writeDmcontrol s v = State.resume { s with dm := s.dm.controlled v } := by
  rw [writeDmcontrol_active noReset on active free, if_pos]
  rw [quiet, Bool.not_false, Bool.and_true]
  exact resumes

/-- The write that does not. -/
theorem writeDmcontrol_stays (noReset : s.coreReset = false) (on : v.getLsbD 0 = true) (active : s.dm.dmactive = true)
    (free : s.dm.busy = false ∨ (v.getLsbD 31 || v.getLsbD 30 || v.getLsbD 28) = false)
    (stays : v.getLsbD 1 = true ∨ ((v.getLsbD 30 && !v.getLsbD 31) && s.debugMode && !s.waiting) = false) :
    writeDmcontrol s v = .next { s with dm := s.dm.controlled v } := by
  rw [writeDmcontrol_active noReset on active free, if_neg]
  rw [Bool.and_right_comm, Bool.and_eq_true, Bool.not_eq_true']
  rintro ⟨resumes, quiet⟩
  rcases stays with raised | stays
  · exact Bool.false_ne_true (quiet.symm.trans raised)
  · exact Bool.false_ne_true (stays.symm.trans resumes)

end

/-! ## The reset that ndmreset raises (R650) -/

/-- General registers after a hart reset, where `MPRF_RST_EN` is on (R652). -/
theorem State.getReg_reset {t : State} {cfg : Config} {n : Nat} (h : t.regs = resetRegs cfg n) (on : cfg.mprfRstEn = true)
    (r : Reg) : t.getReg r = 0 := by
  simp [State.getReg, h, resetRegs, on]

/-- TDATA1 of every trigger after a reset (R572, R573). -/
theorem resetAll_tdata1 (cfg : Config) : (Trigger.resetAll cfg).map (·.tdata1) =
    if cfg.dbgEn && cfg.tduEn then
      List.replicate cfg.tduTrigNum 0x20000000 ++ (if cfg.tduIcountEn then [0x30000400] else [])
    else [] := by
  unfold Trigger.resetAll
  split
  · rw [List.map_append, List.map_replicate]
    split <;> rfl
  · rfl

/-- A Core Reset alone, with the module active: the hart is reset, and its debug units where MODE does not keep them (R513,
R650). -/
theorem applyResets_core {s : State} (core : s.coreReset = true) (noPower : s.pins.pwrup = false)
    (noTap : s.tapReset = false) (noDm : s.scu.control.getLsbD 0 = false) : s.applyResets =
      if s.scu.mode.getLsbD 1 then s.settleScu.resetHart.clearHavereset else s.settleScu.resetHart.clearHavereset.resetHdu := by
  have scu : s.settleScu = { s with scu := { s.scu with sticky := s.scu.sticky ||| s.scuStatus } } := by
    rw [State.settleScu, if_neg (by simp [noPower])]
  have tap : s.settleScu.tapReset = false := (tapReset_congr (by simp)).trans noTap
  have dm : s.settleScu.dmReset = false := by
    rw [State.dmReset, scu]
    dsimp only
    rw [noPower, noDm]
    rfl
  have hdu : s.hduReset = !s.scu.mode.getLsbD 1 := by
    rw [State.hduReset, noPower, core, Bool.false_or, Bool.true_and]
  simp only [State.applyResets, tap, dm, core, hdu, Bool.false_eq_true, if_false, if_true]
  cases s.scu.mode.getLsbD 1 <;> rfl

/-- An event on a machine that no reset holds is its effect, the resets that it raised, and the clock: the hart does not leave
a reset (R543, R650). -/
theorem step_event_resets {s t : State} {e : HostEvent} {rest : List HostEvent} (h : s.inputs = e :: rest) (he : e ≠ .run)
    (noReset : s.coreReset = false) (ht : eventEffect { s with inputs := rest } e = .next t) :
    step s = .next t.applyResets.tick := by
  have noReset' : ({ s with inputs := rest } : State).coreReset = false := noReset
  rw [step_event h he, hostEvent, ht]
  dsimp only
  rw [State.settle, if_neg (by simp [noReset'])]
  rfl

/-- What a reset does does not depend on what the debugger had done before it. -/
theorem HartReset.of_debugger {s t : State} {dm : Dm} {tap : Tap} {inputs : List HostEvent}
    (h : HartReset { s with dm := dm, tap := tap, inputs := inputs } t) : HartReset s t :=
  ⟨h.pc, h.seqWrap, h.regs, h.csr, h.mtime, h.mtimecmp, h.timerCtrl, h.timerDiv, h.ipic, h.sleeping, h.debugMode, h.waiting,
    h.stale, h.mem, h.cfg⟩

theorem HduKept.of_debugger {s t : State} {dm : Dm} {tap : Tap} {inputs : List HostEvent}
    (h : HduKept { s with dm := dm, tap := tap, inputs := inputs } t) : HduKept s t :=
  ⟨h.dcsr, h.dpc, h.tselect, h.triggers⟩

theorem HduReset.of_debugger {s t : State} {dm : Dm} {tap : Tap} {inputs : List HostEvent}
    (h : HduReset { s with dm := dm, tap := tap, inputs := inputs } t) : HduReset s t :=
  ⟨h.dcsr, h.tselect, h.tdata1, h.dscratch0⟩

/-- What such a reset does to the hart, to its debug units and to the Debug Module. -/
theorem applyResets_core_spec {s : State} (core : s.coreReset = true) (noPower : s.pins.pwrup = false)
    (noTap : s.tapReset = false) (noDm : s.scu.control.getLsbD 0 = false) (active : s.dm.dmactive = true) :
    s.applyResets.coreReset = true ∧ HartReset s s.applyResets ∧
    { s.applyResets.dm with data0 := s.dm.data0 } = { s.dm with havereset := true } ∧
    (s.scu.mode.getLsbD 1 = true → HduKept s s.applyResets ∧ s.applyResets.dm.data0 = s.dm.data0) ∧
    (s.scu.mode.getLsbD 1 = false → HduReset s s.applyResets) := by
  have scu : s.settleScu = { s with scu := { s.scu with sticky := s.scu.sticky ||| s.scuStatus } } := by
    rw [State.settleScu, if_neg (by simp [noPower])]
  rw [applyResets_core core noPower noTap noDm, scu]
  split
  · next kept =>
    refine ⟨core, ⟨rfl, rfl, fun on => State.getReg_reset rfl on, rfl, rfl, rfl, rfl, rfl, rfl, rfl, rfl, rfl, rfl, rfl, rfl⟩,
      ?_, fun _ => ⟨⟨rfl, rfl, rfl, rfl⟩, rfl⟩, fun reset => absurd kept (Bool.eq_false_iff.1 reset)⟩
    simp [State.clearHavereset, State.resetHart, active]
  · next reset =>
    refine ⟨core, ⟨rfl, rfl, fun on => State.getReg_reset rfl on, rfl, rfl, rfl, rfl, rfl, rfl, rfl, rfl, rfl, rfl, rfl, rfl⟩,
      ?_, fun kept => absurd kept reset, fun _ => ⟨rfl, rfl, resetAll_tdata1 s.cfg, rfl⟩⟩
    simp [State.clearHavereset, State.resetHart, State.resetHdu, active]

/-- Settles O47: the write sets the fields; without ndmreset no reset follows it, with it the Core Reset alone does, and the
hart does not resume. -/
theorem dmcontrolWrites : Obligations.DmcontrolWrites := by
  intro s rest v h hs requests resumereq resumes
  have noReset : (s.dmiStart rest 0x10).coreReset = false := hs.noReset
  have refuses {r : Refusal} (hr : writeDmcontrol (s.dmiStart rest 0x10) v = .refused r) : step s = .refused r :=
    hs.dmi.step_write_refused h ((dmiWrite_dmcontrol s rest v).trans hr)
  refine ⟨fun off => ?inactive, fun on busy asked => ?refused, fun on free => ?active⟩
  case inactive =>
    exact ⟨_, hs.dmi.step_write h (writeDmcontrol_inactive off) rfl rfl (ndmreset_of_noReset hs.noReset).symm, rfl,
      sameHart_debugger s _ _ rest⟩
  case refused => exact refuses (writeDmcontrol_refused on hs.active busy asked)
  case active =>
    refine ⟨fun quiet stays => ?stays, fun quiet resumes aligned => ?resumed, fun quiet resumes misaligned => ?misaligned,
      fun raised => ?reset⟩
    case stays =>
      have answer := writeDmcontrol_stays noReset on hs.active free (.inr stays)
      exact ⟨_, hs.dmi.step_write h answer rfl rfl (quiet.trans (ndmreset_of_noReset hs.noReset).symm),
        sameHart_debugger s _ _ rest, rfl⟩
    case resumed =>
      have aligned' : pcAligned (s.dmiStart rest 0x10).cfg (s.dmiStart rest 0x10).dpc = true := aligned
      have answer := (writeDmcontrol_resumes noReset on hs.active free quiet resumes).trans (if_pos aligned')
      exact ⟨_, hs.dmi.step_write h answer rfl rfl (quiet.trans (ndmreset_of_noReset hs.noReset).symm), rfl, rfl, rfl, rfl,
        rfl, rfl, rfl, rfl, fun _ => rfl⟩
    case misaligned =>
      have misaligned' : ¬ pcAligned (s.dmiStart rest 0x10).cfg (s.dmiStart rest 0x10).dpc = true :=
        Bool.eq_false_iff.1 misaligned
      exact refuses ((writeDmcontrol_resumes noReset on hs.active free quiet resumes).trans (if_neg misaligned'))
    case reset =>
      have answer := writeDmcontrol_stays noReset on hs.active free (.inl raised)
      have core := (coreReset_controlled noReset v).trans raised
      obtain ⟨noPower, -, -, noDm, -, -⟩ := coreReset_false.1 hs.noReset
      obtain ⟨held, hart, dm, kept, reset⟩ := applyResets_core_spec core noPower hs.noTapReset noDm hs.active
      refine ⟨_, step_event_resets h (by simp) hs.noReset ((if_pos hs.present).trans answer), held,
        HartReset.of_debugger (s := s) hart, dm, fun keeps => ?_, fun resets => HduReset.of_debugger (s := s) (reset resets)⟩
      obtain ⟨units, data0⟩ := kept keeps
      exact ⟨HduKept.of_debugger (s := s) units, data0⟩

end Sys2Proof.Machine
end

section
/-! The SCU and the TAP controller: what an SCU access leaves once the resets have acted, what a scan captures, and the
statements on both (O59, O60). -/
namespace Sys2Proof.Machine

/-! ## The SCU (R507, R511 to R515) -/

/-- STATUS bit by bit: the resets in the order of R514. -/
theorem scuStatus_eq {s : State} (noPower : s.pins.pwrup = false) : s.scuStatus =
    BitVec.ofBool (s.coreReset && !s.scu.mode.getLsbD 1) ++ BitVec.ofBool (s.scu.control.getLsbD 0 && s.scu.mode.getLsbD 0) ++
      BitVec.ofBool s.coreReset ++ BitVec.ofBool s.sysReset := by
  have word (hdu dm core sys : Bool) : BitVec.ofNat 4 (b2n sys + 2 * b2n core + 4 * b2n dm + 8 * b2n hdu) =
      BitVec.ofBool hdu ++ BitVec.ofBool dm ++ BitVec.ofBool core ++ BitVec.ofBool sys := by
    revert hdu dm core sys
    decide
  rw [State.scuStatus, word, State.hduReset, State.dmReset, noPower, Bool.false_or, Bool.false_or]

/-- Of the resets only the collection of the sticky bits reaches the SCU, Power-Up apart (R512, R515). -/
theorem applyResets_scu {s : State} (noPower : s.pins.pwrup = false) :
    s.applyResets.scu = { s.scu with sticky := s.scu.sticky ||| s.scuStatus } := by
  have settled : s.settleScu.scu = { s.scu with sticky := s.scu.sticky ||| s.scuStatus } := by
    rw [State.settleScu, if_neg (by simp [noPower])]
  rw [← settled]
  simp only [State.applyResets, apply_ite State.scu, State.resetHdu_scu, State.clearHavereset_scu, State.resetHart_scu,
    ite_self]

theorem settle_scu {s : State} (noPower : s.pins.pwrup = false) (before : State) :
    (State.settle before s).scu = { s.scu with sticky := s.scu.sticky ||| s.scuStatus } := by
  rw [← applyResets_scu noPower, State.settle]
  split
  · exact State.enterDebug_scu ..
  · rfl

/-- The step of an SCU access that goes on: the registers it makes, then the sticky bits. -/
theorem step_scu {s : State} {rest : List HostEvent} {op : ScuOp} {a : BitVec 2} {d : BitVec 4} {c : Scu}
    (present : s.cfg.dbgEn = true) (h : s.inputs = .scu op a d :: rest) (noPower : s.pins.pwrup = false)
    (hc : scuUpdate s.scu op a d = some c) : ∃ u : State, step s = .next u.tick ∧
      u.scu.control = c.control ∧ u.scu.mode = c.mode ∧
      u.scu.sticky = c.sticky ||| ({ s with scu := c } : State).scuStatus ∧ u.scu.lastAddr = a ∧
      (op = .read → u.scu.lastData = scuRead s a) := by
  have effect : eventEffect { s with inputs := rest } (.scu op a d) = scuAccess { s with inputs := rest } op a d :=
    if_pos present
  rw [step_event h (by simp), hostEvent, effect, scuAccess, hc]
  refine ⟨_, rfl, ?_⟩
  rw [settle_scu]
  · exact ⟨rfl, rfl, rfl, rfl, fun read => if_pos read⟩
  · exact noPower

/-- What READ returns of each register (R507, R514). -/
theorem scuRead_eq (s : State) (a : BitVec 2) : scuRead s a =
    if a = 0 then s.scu.control else if a = 1 then s.scu.mode else if a = 2 then s.scuStatus else s.scu.sticky := by
  match a with
  | 0 | 1 | 2 | 3 => rfl

/-- Settles O59: an access makes of its register what `scuUpdate` says, and then the resets add their sticky bits. -/
theorem scuOperations : Obligations.ScuOperations := by
  intro s rest op a d present h noPower resets new k leaves
  have status (c : Scu) : ({ s with scu := c } : State).scuStatus = resets c.control c.mode := by
    refine (scuStatus_eq (s := { s with scu := c }) noPower).trans ?_
    simp only [State.coreReset, State.sysReset, noPower, Bool.false_or]
    rfl
  have apply (old : BitVec 4) : new old = op.apply old d := by cases op <;> rfl
  have goes {c : Scu} (hc : scuUpdate s.scu op a d = some c) : leaves c.control c.mode c.sticky := by
    obtain ⟨u, hu, control, mode, sticky, lastAddr, lastData⟩ := step_scu present h noPower hc
    rw [status] at sticky
    refine ⟨u, hu, control, mode, sticky, lastAddr, fun read => (lastData read).trans ?_⟩
    rw [← status k]
    exact scuRead_eq s a
  refine ⟨?control, ?mode, ?status, ?sticky, ?refused⟩
  case control =>
    rintro rfl
    rw [apply]
    exact goes rfl
  case mode =>
    rintro rfl
    rw [apply]
    exact goes rfl
  case status =>
    rintro rfl
    exact goes rfl
  case sticky =>
    rintro rfl allowed
    rw [apply]
    refine goes (if_neg ?_)
    rcases allowed with rfl | rfl <;> decide
  case refused =>
    rintro rfl denied
    have update : scuUpdate s.scu op 3 d = none := if_pos denied
    refine step_event_refused h (by simp) ((if_pos present).trans ?_)
    rw [scuAccess, update]

/-! ## What a scan captures (R505 to R507) -/

theorem toNat_append_eq_add {m n : Nat} (x : BitVec m) (y : BitVec n) : (x ++ y).toNat = x.toNat * 2 ^ n + y.toNat := by
  rw [BitVec.toNat_append, ← Nat.shiftLeft_add_eq_or_of_lt y.isLt, Nat.shiftLeft_eq]

/-- DMI_ACCESS: address, data and status of the last access, from the top. -/
theorem dmiCapture_eq (s : State) : BitVec.ofNat 41 (dmiCapture s) = s.tap.dmiAddr ++ s.tap.dmiData ++ s.tap.dmistat := by
  have number : dmiCapture s = (s.tap.dmiAddr ++ s.tap.dmiData ++ s.tap.dmistat).toNat := by
    simp only [dmiCapture, toNat_append_eq_add]
    omega
  rw [number, BitVec.ofNat_toNat, BitVec.setWidth_eq]

/-- SCU_ACCESS: data, address and operation of the last access, from the top. -/
theorem scuCapture_eq (s : State) :
    BitVec.ofNat 41 (scuCapture s) = (s.scu.lastData ++ s.scu.lastAddr ++ s.scu.lastOp).setWidth 41 := by
  have number : scuCapture s = (s.scu.lastData ++ s.scu.lastAddr ++ s.scu.lastOp).toNat := by
    simp only [scuCapture, toNat_append_eq_add]
    omega
  rw [number, BitVec.ofNat_toNat]

/-- DTMCS: dmistat above the constant fields. -/
theorem dtmcsCapture_eq (s : State) : BitVec.ofNat 41 (dtmcsCapture s) = (s.tap.dmistat ++ 0x071#10).setWidth 41 := by
  have number : dtmcsCapture s = (s.tap.dmistat ++ 0x071#10).toNat := by
    rw [dtmcsCapture, toNat_append_eq_add]
    exact Nat.add_comm ..
  rw [number, BitVec.ofNat_toNat]

/-! ## The scan of each data register (R503 to R507) -/

section
variable {s : State} {d : BitVec 41}

theorem drScan_idcode (h : s.tap.ir = 0x01) :
    drScan s d = .next { s with tap := { s.tap with tdo := s.cfg.idcode.setWidth 41 } } := by
  rw [drScan, h, ← BitVec.ofNat_toNat]
  rfl

theorem drScan_bldId (h : s.tap.ir = 0x04) :
    drScan s d = .next { s with tap := { s.tap with tdo := s.cfg.buildId.setWidth 41 } } := by
  rw [drScan, h, ← BitVec.ofNat_toNat]
  rfl

theorem drScan_scu {op : BitVec 2} (h : s.tap.ir = 0x09) (hop : d.extractLsb' 0 2 = op) : drScan s d =
    scuAccess { s with tap := { s.tap with tdo := (s.scu.lastData ++ s.scu.lastAddr ++ s.scu.lastOp).setWidth 41 } }
      (ScuOp.ofCode op) (d.extractLsb' 2 2) (d.extractLsb' 4 4) := by
  rw [← hop, drScan, h, ← scuCapture_eq]
  rfl

theorem drScan_dtmcs (h : s.tap.ir = 0x10) : drScan s d =
    .next (dtmcsUpdate { s with tap := { s.tap with tdo := (s.tap.dmistat ++ 0x071#10).setWidth 41 } } d) := by
  rw [drScan, h, ← dtmcsCapture_eq]
  rfl

theorem drScan_dmi (h : s.tap.ir = 0x11) : drScan s d =
    dmiUpdate { s with tap := { s.tap with tdo := s.tap.dmiAddr ++ s.tap.dmiData ++ s.tap.dmistat } } d := by
  rw [drScan, h, ← dmiCapture_eq]
  rfl

/-- BYPASS, and an IR value with no register. -/
theorem drScan_bypass (idcode : s.tap.ir ≠ 0x01) (bldId : s.tap.ir ≠ 0x04) (scu : s.tap.ir ≠ 0x09)
    (dtmcs : s.tap.ir ≠ 0x10) (dmi : s.tap.ir ≠ 0x11) :
    drScan s d = .next { s with tap := { s.tap with tdo := 0 } } := by
  unfold drScan
  split
  · next h => exact absurd (BitVec.eq_of_toNat_eq h) idcode
  · next h => exact absurd (BitVec.eq_of_toNat_eq h) bldId
  · next h => exact absurd (BitVec.eq_of_toNat_eq h) scu
  · next h => exact absurd (BitVec.eq_of_toNat_eq h) dtmcs
  · next h => exact absurd (BitVec.eq_of_toNat_eq h) dmi
  · rfl

end

/-! ## The step that is a scan (R503) -/

section
variable {s : State} {rest : List HostEvent} {e : HostEvent} {d : BitVec 41} {x : Tap}

/-- A scan that changes the TAP controller alone. -/
theorem State.DmiReady.scans (hs : s.DmiReady) (h : s.inputs = e :: rest) (he : e ≠ .run)
    (ht : eventEffect { s with inputs := rest } e = .next { s with tap := x, inputs := rest }) :
    ∃ u : State, step s = .next u.tick ∧ u.tap = x ∧ { u with tap := s.tap, inputs := s.inputs } = s :=
  ⟨_, step_event_quiet h he hs.noReset hs.noTapReset ht rfl rfl rfl, rfl, rfl⟩

theorem State.DmiReady.drScan_effect (hs : s.DmiReady) (rest : List HostEvent) (d : BitVec 41) :
    eventEffect { s with inputs := rest } (.drScan d) = drScan { s with inputs := rest } d := by
  have noTapReset : ({ s with inputs := rest } : State).tapReset = false := hs.noTapReset
  exact if_pos (by simp [hs.present, noTapReset])

/-- A scan that is an access: it shifts out what it captured, and then does what the access `e` does. -/
theorem State.DmiReady.scan_acts (hs : s.DmiReady) (h : s.inputs = .drScan d :: rest) (he : e ≠ .run) (out : BitVec 41)
    (ht : drScan { s with inputs := rest } d = eventEffect { s with tap := { s.tap with tdo := out }, inputs := rest } e) :
    step s = step { s with tap := { s.tap with tdo := out }, inputs := e :: rest } := by
  rw [step_event h (by simp), step_event (s := { s with tap := { s.tap with tdo := out }, inputs := e :: rest }) rfl he,
    hostEvent, hostEvent, hs.drScan_effect, ht]
  rfl

/-- The same where the access is refused without one. -/
theorem State.DmiReady.scan_refused {r : Refusal} (hs : s.DmiReady) (h : s.inputs = .drScan d :: rest)
    (hr : drScan { s with inputs := rest } d = .refused r) : step s = .refused r :=
  step_event_refused h (by simp) ((hs.drScan_effect rest d).trans hr)

end

/-- What the update of DMI_ACCESS asks for where no error stands (R506). -/
theorem dmiUpdate_op {s : State} {d : BitVec 41} {op : BitVec 2} (ok : s.tap.dmistat = 0) (hop : d.extractLsb' 0 2 = op) :
    dmiUpdate s d = match op.toNat with
    | 0 => .next (s.setDmi ((Config.freeWord s.freeCtr .dmiAddr).extractLsb' 0 7) (Config.freeWord s.freeCtr .dmiData))
    | 1 => dmiRead s (d.extractLsb' 34 7)
    | 2 => dmiWrite s (d.extractLsb' 34 7) (d.extractLsb' 2 32)
    | _ => .refused .dmiReservedOp := by
  subst hop
  exact if_neg (by simp [ok])

/-- Settles O60: a scan captures the register that IR selects, shifts that out, and does what its update says. -/
theorem tapScans : Obligations.TapScans := by
  intro s rest ir d present noReset noTapReset tap leaves acts dmi scu dtmcs op
  have hs : s.DmiReady := ⟨present, noReset, noTapReset⟩
  have noTapReset' : ({ s with inputs := rest } : State).tapReset = false := noTapReset
  refine ⟨fun h => ?irScan, fun h => ?drScan⟩
  case irScan => exact hs.scans h (by simp) (if_pos (by simp [present, noTapReset']))
  have scans {x : Tap} (ht : drScan { s with inputs := rest } d = .next { s with tap := x, inputs := rest }) : leaves x :=
    hs.scans h (by simp) ((hs.drScan_effect rest d).trans ht)
  have dtmcsAct (hir : tap.ir = 0x10) := drScan_dtmcs (s := { s with inputs := rest }) (d := d) hir
  have dmiScan (hir : tap.ir = 0x11) := drScan_dmi (s := { s with inputs := rest }) (d := d) hir
  have dmiAct {k : BitVec 2} (hir : tap.ir = 0x11) (ok : tap.dmistat = 0) (hop : op = k) :=
    (dmiScan hir).trans (dmiUpdate_op ok hop)
  have scuAct {k : BitVec 2} (hir : tap.ir = 0x09) (hop : op = k) :=
    drScan_scu (s := { s with inputs := rest }) (d := d) hir hop
  refine ⟨fun hir => scans (drScan_idcode hir), fun hir => scans (drScan_bldId hir), fun hir hard soft => ?dtmcs,
    fun hir hard soft => ?dmireset, fun hir hard => ?dmihardreset, fun hir error => ?dmiError,
    fun hir ok => ⟨fun hop => ?nop, fun hop => ?read, fun hop => ?write, fun hop => ?reserved⟩,
    fun hir => ⟨fun hop => ?scuWrite, fun hop => ?scuRead, fun hop => ?scuSet, fun hop => ?scuClear⟩,
    fun idcode bldId scu dtmcs dmi => scans (drScan_bypass idcode bldId scu dtmcs dmi)⟩
  case dtmcs | dmireset =>
    refine scans ((dtmcsAct hir).trans ?_)
    rw [dtmcsUpdate, hard, soft]
    rfl
  case dmihardreset =>
    refine scans ((dtmcsAct hir).trans ?_)
    rw [dtmcsUpdate, hard]
    rfl
  case dmiError => exact scans ((dmiScan hir).trans (if_pos error))
  case nop =>
    exact ⟨(Config.freeWord s.freeCtr .dmiAddr).extractLsb' 0 7, Config.freeWord s.freeCtr .dmiData, scans (dmiAct hir ok hop)⟩
  case read | write => exact hs.scan_acts h (by simp) dmi ((dmiAct hir ok hop).trans (if_pos present).symm)
  case reserved => exact hs.scan_refused h (dmiAct hir ok hop)
  case scuWrite | scuRead | scuSet | scuClear =>
    exact hs.scan_acts h (by simp) scu ((scuAct hir hop).trans (if_pos present).symm)

end Sys2Proof.Machine
end

section
/-! Abstract commands: the step that starts one, what a CSR write leaves of the debugger, and the statement on Access Register
(O56). -/
namespace Sys2Proof.Machine

/-! ## The step that starts a command (R527, R533, R534) -/

/-- The state on which the command written to COMMAND executes. -/
def State.commandStart (s : State) (rest : List HostEvent) (c : Word) : State :=
  { s.dmiStart rest 0x17 with dm := { s.dm with command := c } }

/-- The debugger writes COMMAND, no command executing and none having failed. -/
structure State.Commands (s : State) (c : Word) (rest : List HostEvent) : Prop where
  inputs : s.inputs = .dmiWrite 0x17 c :: rest
  dm : s.DmReady
  idle : s.dm.busy = false
  noError : s.dm.cmderr = 0

theorem State.CommandReady.commands {s : State} {c : Word} {rest : List HostEvent} (hs : s.CommandReady)
    (h : s.inputs = .dmiWrite 0x17 c :: rest) : s.Commands c rest := ⟨h, hs.dm, hs.idle, hs.noError⟩

section
variable {s t : State} {c : Word} {rest : List HostEvent} {r : Refusal}

theorem State.Commands.writeDm_eq (hs : s.Commands c rest) :
    writeDm (s.dmiStart rest 0x17) 0x17 c = runCommand (s.commandStart rest c) := by
  exact if_neg (fun h => h hs.noError)

theorem State.Commands.step_next (hs : s.Commands c rest) (ht : runCommand (s.commandStart rest c) = .next t)
    (pins : t.pins = s.pins) (scu : t.scu = s.scu) (ndmreset : t.dm.ndmreset = s.dm.ndmreset) :
    step s = .next t.tick :=
  hs.dm.step_writeDm hs.inputs (by decide) rfl (by rw [hs.idle]; rfl) (hs.writeDm_eq.trans ht) pins scu ndmreset

theorem State.Commands.step_refused (hs : s.Commands c rest) (hr : runCommand (s.commandStart rest c) = .refused r) :
    step s = .refused r :=
  hs.dm.step_writeDm_refused hs.inputs (by decide) rfl (by rw [hs.idle]; rfl) (hs.writeDm_eq.trans hr)

/-- The commands by their cmdtype (R534). -/
theorem runCommand_register (noError : s.dm.cmderr = 0) (noHalt : s.dm.haltreq = false)
    (type : s.dm.command.extractLsb' 24 8 = 0) : runCommand s = accessRegister s s.dm.command := by
  rw [runCommand, if_neg (fun h => h noError), if_neg (by simp [noHalt]), type]
  rfl

theorem runCommand_memory (noError : s.dm.cmderr = 0) (noHalt : s.dm.haltreq = false)
    (type : s.dm.command.extractLsb' 24 8 = 2) : runCommand s = accessMemory s s.dm.command := by
  rw [runCommand, if_neg (fun h => h noError), if_neg (by simp [noHalt]), type]
  rfl

theorem runCommand_unsupported (noError : s.dm.cmderr = 0) (noHalt : s.dm.haltreq = false)
    (notRegister : s.dm.command.extractLsb' 24 8 ≠ 0) (notMemory : s.dm.command.extractLsb' 24 8 ≠ 2) :
    runCommand s = .next (s.failCommand 2) := by
  rw [runCommand, if_neg (fun h => h noError), if_neg (by simp [noHalt])]
  split
  · next h => exact absurd (BitVec.eq_of_toNat_eq h) notRegister
  · next h => exact absurd (BitVec.eq_of_toNat_eq h) notMemory
  · rfl

theorem runCommand_halting (noError : s.dm.cmderr = 0) (halt : s.dm.haltreq = true) :
    runCommand s = .refused .dmRequestDuringCommand := by
  rw [runCommand, if_neg (fun h => h noError), if_pos halt]

/-- A command that changes only the Debug Module leaves the hart as it was. -/
theorem State.Commands.leaves (hs : s.Commands c rest) {d : Dm}
    (ht : runCommand (s.commandStart rest c) = .next { s with dm := d, tap := (s.dmiStart rest 0x17).tap, inputs := rest })
    (ndmreset : d.ndmreset = s.dm.ndmreset) : ∃ u : State, step s = .next u.tick ∧ SameHart s u ∧ u.dm = d :=
  ⟨_, hs.step_next ht rfl rfl ndmreset, sameHart_debugger s d _ rest, rfl⟩

/-- A command that fails leaves of the Debug Module all but cmderr, DATA0 and DATA1 (R529). -/
theorem State.Commands.fails (hs : s.Commands c rest) {e : BitVec 3}
    (ht : runCommand (s.commandStart rest c) = .next ((s.commandStart rest c).failCommand e)) :
    ∃ u : State, step s = .next u.tick ∧ SameHart s u ∧
      u.dm = { s.dm with command := c, cmderr := e, data0 := u.dm.data0, data1 := u.dm.data1 } := by
  obtain ⟨u, hu, hart, dm⟩ := hs.leaves ht rfl
  exact ⟨u, hu, hart, by rw [dm]; rfl⟩

/-- An Access Register command that reads `w` puts it into DATA0, and gives no guarantee of DATA1 (R529, R535). -/
theorem State.Commands.reads (hs : s.Commands c rest) {w : Word}
    (ht : runCommand (s.commandStart rest c) = .next ((s.commandStart rest c).setData0 w).spendData1) :
    ∃ u : State, step s = .next u.tick ∧ SameHart s u ∧
      u.dm = { s.dm with command := c, data0 := w, data1 := u.dm.data1 } := by
  obtain ⟨u, hu, hart, dm⟩ := hs.leaves ht rfl
  exact ⟨u, hu, hart, by rw [dm]; rfl⟩

end

/-! ## Writes of CSRs (R561) -/

/-- Of the Debug Module a CSR write changes the cell of DSCRATCH0, which is DATA0 (D42), and takes for it the written value. -/
theorem csrWrite_dm {s t : State} {a : BitVec 12} {v : Word} (h : csrWrite s a v = .next t) :
    t.dm = s.dm ∨ t.dm = { s.dm with data0 := v } := by
  unfold csrWrite at h
  split at h
  case h_3 =>
    unfold writeMtvec at h
    split at h <;> cases h
    exact .inl rfl
  case h_12 =>
    cases h
    unfold writeTselect
    split <;> exact .inl rfl
  case h_13 => obtain rfl | ⟨y, rfl⟩ := writeTdata1_cases h <;> exact .inl rfl
  case h_14 =>
    cases h
    unfold writeTdata2
    split
    · exact .inl rfl
    · split <;> exact .inl rfl
  case h_17 =>
    cases h
    exact .inr rfl
  all_goals
    cases h
    exact .inl rfl

/-- `f` on the state that an operation goes on with. -/
def mapNext (f : State → State) : Result → Result
  | .next s => .next (f s)
  | .fault r => .fault r
  | .refused r => .refused r

/-- The state of another debugger: another command, TAP controller and list of what is sent. -/
def State.withDebugger (s : State) (c : Word) (tap : Tap) (inputs : List HostEvent) : State :=
  { s with dm := { s.dm with command := c }, tap := tap, inputs := inputs }

section
variable (s : State) (c : Word) (tap : Tap) (inputs : List HostEvent) (v : Word)

theorem writeMtvec_withDebugger :
    writeMtvec (s.withDebugger c tap inputs) v = mapNext (·.withDebugger c tap inputs) (writeMtvec s v) := by
  rw [writeMtvec, writeMtvec, apply_ite (mapNext _)]
  rfl

theorem writeTselect_withDebugger :
    writeTselect (s.withDebugger c tap inputs) v = (writeTselect s v).withDebugger c tap inputs := by
  rw [writeTselect, writeTselect, apply_ite (State.withDebugger · c tap inputs)]
  rfl

theorem writeMcontrol_withDebugger (t : Trigger) :
    writeMcontrol (s.withDebugger c tap inputs) t v = mapNext (·.withDebugger c tap inputs) (writeMcontrol s t v) := by
  rw [writeMcontrol, writeMcontrol, apply_ite (mapNext _), apply_ite (mapNext _)]
  rfl

theorem writeIcount_withDebugger (t : Trigger) :
    writeIcount (s.withDebugger c tap inputs) t v = mapNext (·.withDebugger c tap inputs) (writeIcount s t v) := by
  rw [writeIcount, writeIcount, apply_ite (mapNext _)]
  rfl

theorem writeTdata1_withDebugger :
    writeTdata1 (s.withDebugger c tap inputs) v = mapNext (·.withDebugger c tap inputs) (writeTdata1 s v) := by
  have same : selected (s.withDebugger c tap inputs) = selected s := rfl
  rw [writeTdata1, writeTdata1, same]
  cases selected s with
  | none => rfl
  | some t =>
    dsimp only
    rw [writeMcontrol_withDebugger, writeIcount_withDebugger, apply_ite (mapNext _), apply_ite (mapNext _),
      apply_ite (mapNext _)]
    rfl

theorem writeTdata2_withDebugger :
    writeTdata2 (s.withDebugger c tap inputs) v = (writeTdata2 s v).withDebugger c tap inputs := by
  have same : selected (s.withDebugger c tap inputs) = selected s := rfl
  rw [writeTdata2, writeTdata2, same]
  cases selected s with
  | none => rfl
  | some t =>
    dsimp only
    rw [apply_ite (State.withDebugger · c tap inputs)]
    rfl

/-- A CSR write does not depend on it. -/
theorem csrWrite_withDebugger (a : BitVec 12) :
    csrWrite (s.withDebugger c tap inputs) a v = mapNext (·.withDebugger c tap inputs) (csrWrite s a v) := by
  unfold csrWrite
  generalize a.toNat - 0xBF0 = off
  split
  case h_3 => exact writeMtvec_withDebugger ..
  case h_12 => exact congrArg Host.Outcome.next (writeTselect_withDebugger ..)
  case h_13 => exact writeTdata1_withDebugger ..
  case h_14 => exact congrArg Host.Outcome.next (writeTdata2_withDebugger ..)
  all_goals rfl

end

/-! ## The fields of an Access Register command (R535) -/

/-- `c` transfers the register `regno` by 32 bits, without postexec and without the options that are not supported. -/
structure IsTransfer (c : Word) (write : Bool) (regno : BitVec 16) : Prop where
  cmdtype : c.extractLsb' 24 8 = 0
  noOption23 : c.getLsbD 23 = false
  size : c.extractLsb' 20 3 = 2
  noOption19 : c.getLsbD 19 = false
  noPostexec : c.getLsbD 18 = false
  transfer : c.getLsbD 17 = true
  direction : c.getLsbD 16 = write
  regno : c.extractLsb' 0 16 = regno

/-- The upper half of the word holds the options, the lower half the regno. -/
theorem isTransfer_append (write : Bool) (regno : BitVec 16) :
    IsTransfer ((if write then 0x0023#16 else 0x0022#16) ++ regno) write regno := by
  constructor
  case regno => exact BitVec.extractLsb'_append_eq_right
  case cmdtype | size =>
    rw [BitVec.extractLsb'_append_eq_of_le (by decide)]
    cases write <;> rfl
  all_goals
    rw [BitVec.getLsbD_append, if_neg (by decide)]
    cases write <;> rfl

theorem or_setWidth_eq_append (hi lo : BitVec 16) : (hi ++ 0#16) ||| lo.setWidth 32 = hi ++ lo := by
  apply BitVec.eq_of_getLsbD_eq
  intro k hk
  rw [BitVec.getLsbD_or, BitVec.getLsbD_append, BitVec.getLsbD_append, BitVec.getLsbD_setWidth]
  split
  · rw [BitVec.getLsbD_zero, decide_eq_true hk, Bool.false_or, Bool.true_and]
  · next high => rw [BitVec.getLsbD_of_ge lo k (Nat.le_of_not_lt high), Bool.and_false, Bool.or_false]

theorem isTransfer_of {c : Word} {write : Bool} {regno : BitVec 16}
    (hc : c = (if write then 0x00230000#32 else 0x00220000#32) ||| regno.setWidth 32) : IsTransfer c write regno := by
  have word := or_setWidth_eq_append (if write then 0x0023#16 else 0x0022#16) regno
  have upper : (if write then 0x0023#16 else 0x0022#16) ++ 0#16 = (if write then 0x00230000#32 else 0x00220000#32) := by
    cases write <;> rfl
  rw [hc, ← upper, word]
  exact isTransfer_append write regno

theorem transferUnsupported_eq (c : Word) :
    transferUnsupported c = (c.extractLsb' 20 3 != 2 || decide (0x1020 ≤ (c.extractLsb' 0 16).toNat)) := by
  have size : ((c.extractLsb' 20 3).toNat != 2) = (c.extractLsb' 20 3 != 2) := by
    rw [Bool.eq_iff_iff, bne_iff_ne, bne_iff_ne, ne_eq, ne_eq, ← BitVec.toNat_inj]
    rfl
  rw [transferUnsupported, size]

/-- The option bits that no Access Register command may have, and what its transfer may not ask for (R535). -/
def registerUnsupported (c : Word) : Bool :=
  c.getLsbD 19 || c.getLsbD 23 ||
    (c.getLsbD 17 && (c.extractLsb' 20 3 != 2 || decide (0x1020 ≤ (c.extractLsb' 0 16).toNat)))

theorem IsTransfer.unsupported {c : Word} {write : Bool} {regno : BitVec 16} (h : IsTransfer c write regno) :
    registerUnsupported c = decide (0x1020 ≤ regno.toNat) := by
  simp only [registerUnsupported, h.noOption19, h.noOption23, h.transfer, h.size, h.regno, bne_self_eq_false, Bool.or_self,
    Bool.false_or, Bool.true_and]

/-! ## What the command does (R535) -/

section
variable {s t : State} {c : Word}

theorem accessRegister_unsupported (h : registerUnsupported c = true) : accessRegister s c = .next (s.failCommand 2) := by
  rw [registerUnsupported, ← transferUnsupported_eq] at h
  exact if_pos h

/-- On a running hart the registers that it lets be sampled are read, and nothing else is done. -/
theorem accessRegister_running (supported : registerUnsupported c = false) (running : s.debugMode = false) :
    accessRegister s c =
      if c.getLsbD 17 && !c.getLsbD 16 && !c.getLsbD 18 then
        match runningRead s (c.extractLsb' 0 16).toNat with
        | some v => .next (s.setData0 v).spendData1
        | none => .next (s.failCommand 4)
      else .next (s.failCommand 4) := by
  rw [registerUnsupported, ← transferUnsupported_eq] at supported
  exact (if_neg (Bool.eq_false_iff.1 supported)).trans (if_pos (by rw [running]; rfl))

/-- On a halted hart that does not wait, the answer of the transfer decides. -/
theorem accessRegister_halted (supported : registerUnsupported c = false) (halted : s.debugMode = true)
    (noWait : s.waiting = false) : accessRegister s c =
      match (if c.getLsbD 17 then transferReg s (c.extractLsb' 0 16).toNat (c.getLsbD 16) else some (.next s)) with
      | none => .next (s.failCommand 3)
      | some (.next t) => if c.getLsbD 18 then runProgbuf t else .next t.spendData1
      | some (.fault f) => .fault f
      | some (.refused r) => .refused r := by
  rw [registerUnsupported, ← transferUnsupported_eq] at supported
  exact (if_neg (Bool.eq_false_iff.1 supported)).trans
    ((if_neg (by rw [halted]; simp)).trans (if_neg (by rw [noWait]; simp)))

/-- The answer of a transfer alone. -/
theorem runCommand_transfer {write : Bool} {regno : BitVec 16} {n : Nat} (hc : IsTransfer s.dm.command write regno)
    (number : regno.toNat = n) (listed : n < 0x1020) (noError : s.dm.cmderr = 0) (noHalt : s.dm.haltreq = false)
    (halted : s.debugMode = true) (noWait : s.waiting = false) : runCommand s =
      match transferReg s n write with
      | none => .next (s.failCommand 3)
      | some (.next t) => .next t.spendData1
      | some (.fault f) => .fault f
      | some (.refused r) => .refused r := by
  have supported : registerUnsupported s.dm.command = false := hc.unsupported.trans (decide_eq_false (by omega))
  rw [runCommand_register noError noHalt hc.cmdtype, accessRegister_halted supported halted noWait, hc.transfer, hc.regno,
    hc.direction, hc.noPostexec, number]
  rfl

end

/-! ## The step that is an Access Register command -/

section
variable {s : State} {c : Word} {rest : List HostEvent}

theorem State.Commands.register_unsupported (hs : s.Commands c rest) (noHalt : s.dm.haltreq = false)
    (type : c.extractLsb' 24 8 = 0) (unsupported : registerUnsupported c = true) :
    ∃ u : State, step s = .next u.tick ∧ SameHart s u ∧
      u.dm = { s.dm with command := c, cmderr := 2, data0 := u.dm.data0, data1 := u.dm.data1 } :=
  hs.fails ((runCommand_register (s := s.commandStart rest c) hs.noError noHalt type).trans
    (accessRegister_unsupported unsupported))

/-- A running hart lets the register be sampled. -/
theorem State.Commands.samples (hs : s.Commands c rest) (noHalt : s.dm.haltreq = false)
    (type : c.extractLsb' 24 8 = 0) (supported : registerUnsupported c = false) (running : s.debugMode = false)
    (samples : (c.getLsbD 17 && !c.getLsbD 16 && !c.getLsbD 18) = true) {w : Word}
    (hw : runningRead (s.commandStart rest c) (c.extractLsb' 0 16).toNat = some w) :
    ∃ u : State, step s = .next u.tick ∧ SameHart s u ∧
      u.dm = { s.dm with command := c, data0 := w, data1 := u.dm.data1 } := by
  have answer := (accessRegister_running (s := s.commandStart rest c) (c := c) supported running).trans (if_pos samples)
  rw [hw] at answer
  exact hs.reads ((runCommand_register (s := s.commandStart rest c) hs.noError noHalt type).trans answer)

/-- Any other command on a running hart fails with cmderr 4 (R534). -/
theorem State.Commands.not_samples (hs : s.Commands c rest) (noHalt : s.dm.haltreq = false)
    (type : c.extractLsb' 24 8 = 0) (supported : registerUnsupported c = false) (running : s.debugMode = false)
    (other : (c.getLsbD 17 && !c.getLsbD 16 && !c.getLsbD 18) = false ∨
      runningRead (s.commandStart rest c) (c.extractLsb' 0 16).toNat = none) :
    ∃ u : State, step s = .next u.tick ∧ SameHart s u ∧
      u.dm = { s.dm with command := c, cmderr := 4, data0 := u.dm.data0, data1 := u.dm.data1 } := by
  have answer := accessRegister_running (s := s.commandStart rest c) (c := c) supported running
  refine hs.fails ((runCommand_register (s := s.commandStart rest c) hs.noError noHalt type).trans (answer.trans ?_))
  split
  · next samples =>
    rw [other.resolve_left (by rw [samples]; simp)]
  · rfl

end

/-! ## The registers of Table 54 (R536) -/

/-- The low twelve bits of the regno are those of the command. -/
theorem regno_low (c : Word) : (c.extractLsb' 0 16).extractLsb' 0 12 = c.extractLsb' 0 12 := by
  apply BitVec.eq_of_toNat_eq
  rw [toNat_extract, toNat_extract, toNat_extract]
  omega

/-- The regno of a general register. -/
theorem gprRegno (r : Reg) :
    0x1000#32 ||| r.setWidth 32 = (0x1000#16 ||| r.setWidth 16).setWidth 32 ∧
    (0x1000#16 ||| r.setWidth 16).toNat = 0x1000 + r.toNat := by
  revert r
  decide

/-- The regno of a CSR is its address. -/
theorem csrRegno (a : BitVec 12) : a.setWidth 32 = (a.setWidth 16).setWidth 32 ∧ (a.setWidth 16).toNat = a.toNat := by
  have := a.isLt
  constructor
  · apply BitVec.eq_of_toNat_eq
    rw [BitVec.toNat_setWidth, BitVec.toNat_setWidth, BitVec.toNat_setWidth]
    omega
  · rw [BitVec.toNat_setWidth]
    omega

theorem isTransfer_gpr {c : Word} {write : Bool} {r : Reg}
    (hc : c = (if write then 0x00230000#32 else 0x00220000#32) ||| (0x1000#32 ||| r.setWidth 32)) :
    IsTransfer c write (0x1000#16 ||| r.setWidth 16) :=
  isTransfer_of (by rw [hc, (gprRegno r).1])

theorem isTransfer_csr {c : Word} {write : Bool} {a : BitVec 12}
    (hc : c = (if write then 0x00230000#32 else 0x00220000#32) ||| a.setWidth 32) : IsTransfer c write (a.setWidth 16) :=
  isTransfer_of (by rw [hc, (csrRegno a).1])

theorem gprListed (r : Reg) : 0x1000 + r.toNat < 0x1020 := by omega

theorem csrListed (a : BitVec 12) : a.toNat < 0x1020 := by omega

theorem regnoTarget_gpr (s : State) (r : Reg) :
    regnoTarget s (0x1000 + r.toNat) = if s.cfg.rve = true → r.toNat < 16 then .gpr r else .absent := by
  have := r.isLt
  have reg : BitVec.ofNat 5 (0x1000 + r.toNat - 0x1000) = r := by
    rw [Nat.add_sub_cancel_left, BitVec.ofNat_toNat, BitVec.setWidth_eq]
  rw [regnoTarget, if_neg (by omega), if_pos (by omega), reg]
  split
  · next absent => rw [if_neg (fun has => by have := has absent.1; omega)]
  · next present => rw [if_pos (fun rve => by by_contra high; exact present ⟨rve, by omega⟩)]

theorem regnoTarget_csr (s : State) (a : BitVec 12) :
    regnoTarget s a.toNat = if csrExists s a then .csr a else .absent := by
  rw [regnoTarget, if_pos (by have := a.isLt; omega), BitVec.ofNat_toNat, BitVec.setWidth_eq]

section
variable {s : State} {r : Reg} {a : BitVec 12}

theorem transferReg_gpr_read (has : s.cfg.rve = true → r.toNat < 16) :
    transferReg s (0x1000 + r.toNat) false = some (.next (s.setData0 (s.getReg r))) := by
  rw [transferReg, regnoTarget_gpr, if_pos has]
  rfl

theorem transferReg_gpr_write (has : s.cfg.rve = true → r.toNat < 16) :
    transferReg s (0x1000 + r.toNat) true = some (.next (s.setReg r s.dm.data0)) := by
  rw [transferReg, regnoTarget_gpr, if_pos has]
  rfl

theorem transferReg_noGpr (lacks : ¬ (s.cfg.rve = true → r.toNat < 16)) (write : Bool) :
    transferReg s (0x1000 + r.toNat) write = none := by
  rw [transferReg, regnoTarget_gpr, if_neg lacks]

theorem transferReg_csr_read (exists_ : csrExists s a = true) :
    transferReg s a.toNat false = some (.next (s.setData0 (csrRead s a))) := by
  rw [transferReg, regnoTarget_csr, if_pos exists_]
  rfl

theorem transferReg_csr_write (exists_ : csrExists s a = true) (writable : csrReadOnly a = false) :
    transferReg s a.toNat true = some (csrWrite s a s.dm.data0) := by
  rw [transferReg, regnoTarget_csr, if_pos exists_]
  simp [writable]

theorem transferReg_noCsr (write : Bool) (h : csrExists s a = false ∨ (write = true ∧ csrReadOnly a = true)) :
    transferReg s a.toNat write = none := by
  rw [transferReg, regnoTarget_csr]
  cases he : csrExists s a
  · rfl
  · obtain ⟨rfl, readOnly⟩ := h.resolve_left (by simp [he])
    simp [readOnly]

/-- The registers that a running hart lets be sampled (R535). -/
theorem runningRead_csr {n : BitVec 16} (h : n ∈ [0x301#16, 0xF11#16, 0xF12#16, 0xF13#16, 0xF14#16]) :
    runningRead s n.toNat = some (csrRead s (n.extractLsb' 0 12)) := by
  simp only [List.mem_cons, List.not_mem_nil, or_false] at h
  rcases h with rfl | rfl | rfl | rfl | rfl <;> rfl

theorem runningRead_none {n : BitVec 16} (h : n ∉ [0x7B1#16, 0x301#16, 0xF11#16, 0xF12#16, 0xF13#16, 0xF14#16]) :
    runningRead s n.toNat = none := by
  unfold runningRead
  split
  case h_7 => rfl
  all_goals
    next hn =>
    refine absurd ?_ h
    rw [← BitVec.setWidth_eq n, ← BitVec.ofNat_toNat, hn]
    decide

end

/-! ## The step that is a transfer -/

section
variable {s t : State} {c : Word} {rest : List HostEvent} {write : Bool} {regno : BitVec 16} {n : Nat}

theorem State.CommandReady.step_transfer (hs : s.CommandReady) (h : s.inputs = .dmiWrite 0x17 c :: rest)
    (hc : IsTransfer c write regno) (number : regno.toNat = n) (listed : n < 0x1020)
    (ht : transferReg (s.commandStart rest c) n write = some (.next t)) (pins : t.pins = s.pins)
    (scu : t.scu = s.scu) (ndmreset : t.dm.ndmreset = s.dm.ndmreset) : step s = .next t.spendData1.tick := by
  have answer := runCommand_transfer (s := s.commandStart rest c) hc number listed hs.noError hs.noHalt hs.halted hs.noWait
  rw [ht] at answer
  exact (hs.commands h).step_next answer pins scu ndmreset

theorem State.CommandReady.step_transfer_refused {r : Refusal} (hs : s.CommandReady)
    (h : s.inputs = .dmiWrite 0x17 c :: rest) (hc : IsTransfer c write regno) (number : regno.toNat = n) (listed : n < 0x1020)
    (ht : transferReg (s.commandStart rest c) n write = some (.refused r)) : step s = .refused r := by
  have answer := runCommand_transfer (s := s.commandStart rest c) hc number listed hs.noError hs.noHalt hs.halted hs.noWait
  rw [ht] at answer
  exact (hs.commands h).step_refused answer

/-- A transfer that reads `w`. -/
theorem State.CommandReady.transfer_reads {w : Word} (hs : s.CommandReady) (h : s.inputs = .dmiWrite 0x17 c :: rest)
    (hc : IsTransfer c write regno) (number : regno.toNat = n) (listed : n < 0x1020)
    (ht : transferReg (s.commandStart rest c) n write = some (.next ((s.commandStart rest c).setData0 w))) :
    ∃ u : State, step s = .next u.tick ∧ SameHart s u ∧
      u.dm = { s.dm with command := c, data0 := w, data1 := u.dm.data1 } := by
  have answer := runCommand_transfer (s := s.commandStart rest c) hc number listed hs.noError hs.noHalt hs.halted hs.noWait
  rw [ht] at answer
  exact (hs.commands h).reads answer

/-- A transfer that cannot be made fails with cmderr 3. -/
theorem State.CommandReady.transfer_fails (hs : s.CommandReady) (h : s.inputs = .dmiWrite 0x17 c :: rest)
    (hc : IsTransfer c write regno) (number : regno.toNat = n) (listed : n < 0x1020)
    (ht : transferReg (s.commandStart rest c) n write = none) : ∃ u : State, step s = .next u.tick ∧
      SameHart s u ∧ u.dm = { s.dm with command := c, cmderr := 3, data0 := u.dm.data0, data1 := u.dm.data1 } := by
  have answer := runCommand_transfer (s := s.commandStart rest c) hc number listed hs.noError hs.noHalt hs.halted hs.noWait
  rw [ht] at answer
  exact (hs.commands h).fails answer

/-- A register write changes the registers alone. -/
theorem State.setReg_eq (s : State) (r : Reg) (v : Word) : s.setReg r v = { s with regs := (s.setReg r v).regs } := by
  unfold State.setReg
  split <;> rfl

/-- The state after a general register is written by the debugger. -/
theorem setReg_debugger (s : State) (dm : Dm) (tap : Tap) (inputs : List HostEvent) (r : Reg) (w : Word) :
    let u := (({ s with dm := dm, tap := tap, inputs := inputs } : State).setReg r w).spendData1
    SameHart s { u with regs := s.regs } ∧ u.dm = { dm with data1 := u.dm.data1 } ∧
      ∀ q, u.getReg q = if q = r ∧ r ≠ 0#5 then w else s.getReg q := by
  refine ⟨?_, ?_, fun q => State.getReg_setReg { s with dm := dm, tap := tap, inputs := inputs } r q w⟩
  · rw [State.setReg_eq]
    exact sameHart_debugger s _ tap inputs
  · rw [State.setReg_eq]
    rfl

end

/-- A CSR write of DATA0 changes nothing of the Debug Module: DSCRATCH0 is DATA0 (D42). -/
theorem csrWrite_data0 {s w : State} {a : BitVec 12} (h : csrWrite s a s.dm.data0 = .next w) : w.dm = s.dm := by
  rcases csrWrite_dm h with same | same <;> exact same

/-- Which CSRs exist, and what they read as, does not depend on the command. -/
theorem csrExists_commandStart (s : State) (rest : List HostEvent) (c : Word) (a : BitVec 12) :
    csrExists (s.commandStart rest c) a = csrExists s a := rfl

theorem csrRead_commandStart (s : State) (rest : List HostEvent) (c : Word) (a : BitVec 12) :
    csrRead (s.commandStart rest c) a = csrRead s a := by
  unfold csrRead
  generalize a.toNat - 0xBF0 = off
  rfl

/-- A CSR write of the command is that of the machine, with the debugger's side beside it. -/
theorem csrWrite_commandStart {s w : State} {a : BitVec 12} {v : Word} (h : csrWrite s a v = .next w)
    (rest : List HostEvent) (c : Word) : csrWrite (s.commandStart rest c) a v =
      .next (w.withDebugger c (s.dmiStart rest 0x17).tap rest) := by
  have same := csrWrite_withDebugger s c (s.dmiStart rest 0x17).tap rest v a
  rw [h] at same
  exact same

theorem csrWrite_commandStart_refused {s : State} {a : BitVec 12} {v : Word} {r : Refusal}
    (h : csrWrite s a v = .refused r) (rest : List HostEvent) (c : Word) :
    csrWrite (s.commandStart rest c) a v = .refused r := by
  have same := csrWrite_withDebugger s c (s.dmiStart rest 0x17).tap rest v a
  rw [h] at same
  exact same

/-- Settles O56: a command is refused, unsupported, failed or made by the fields of COMMAND and the mode of the hart, and a
transfer by the register that its regno names. -/
theorem accessRegisterCommand : Obligations.AccessRegisterCommand := by
  intro s rest c v hdm reading writing gpr hasGpr fails reads writes
  refine ⟨fun h hs auto command r has hc => ?autoexec, fun h => ⟨fun hs => ⟨fun r => ⟨fun has => ⟨fun hc => ?gprRead,
    fun hc => ?gprWrite⟩, fun lacks hc => ?gprAbsent⟩, fun a => ⟨fun hc present => ?csrRead,
    fun hc present writable => ⟨fun w hw => ?csrWrite, fun r hr => ?csrRefused⟩, fun hc absent => ?csrAbsent,
    fun hc absent => ?csrUnwritable⟩, fun regno high hc => ?unlisted⟩,
    fun idle noError noHalt => ⟨fun notRegister notMemory => ?unknownType, fun type => ⟨fun unsupported => ?unsupported,
      fun supported halted noWait noTransfer noPostexec => ?nothing, fun supported running => ⟨fun samples regno => ?sampled,
      fun samples regno => ?pc, fun other => ?notSampled⟩⟩⟩, fun idle noError halt => ?halting, fun idle error => ?ignored,
    fun busy => ?busy⟩⟩
  case autoexec =>
    obtain rfl := command
    have answer := runCommand_transfer (s := (s.dmiStart rest 0x04).setData0 v) (isTransfer_gpr (write := true) hc)
      (gprRegno r).2 (gprListed r) hs.noError hs.noHalt hs.halted hs.noWait
    rw [transferReg_gpr_write (s := (s.dmiStart rest 0x04).setData0 v) has] at answer
    have starts : writeDm (s.dmiStart rest 0x04) 0x04 v = runCommand ((s.dmiStart rest 0x04).setData0 v) := if_pos auto
    obtain ⟨hart, dm, regs⟩ := setReg_debugger s { s.dm with data0 := v } (s.dmiStart rest 0x04).tap rest r v
    exact ⟨_, hdm.step_writeDm h (by decide) rfl (by rw [hs.idle]; rfl) (starts.trans answer) hart.pins hart.scu
      (congrArg Dm.ndmreset dm :), hart, dm, regs⟩
  case gprRead =>
    exact hs.transfer_reads h (isTransfer_gpr (write := false) hc) (gprRegno r).2 (gprListed r)
      (transferReg_gpr_read (s := s.commandStart rest c) has)
  case gprWrite =>
    obtain ⟨hart, dm, regs⟩ := setReg_debugger s { s.dm with command := c } (s.dmiStart rest 0x17).tap rest r s.dm.data0
    exact ⟨_, hs.step_transfer h (isTransfer_gpr (write := true) hc) (gprRegno r).2 (gprListed r)
      (transferReg_gpr_write (s := s.commandStart rest c) has) hart.pins hart.scu (congrArg Dm.ndmreset dm :), hart, dm, regs⟩
  case gprAbsent =>
    have fails (write : Bool) := transferReg_noGpr (s := s.commandStart rest c) lacks write
    rcases hc with hc | hc
    · exact hs.transfer_fails h (isTransfer_gpr (write := false) hc) (gprRegno r).2 (gprListed r) (fails false)
    · exact hs.transfer_fails h (isTransfer_gpr (write := true) hc) (gprRegno r).2 (gprListed r) (fails true)
  case csrRead =>
    rw [← csrExists_commandStart s rest c] at present
    rw [← csrRead_commandStart s rest c]
    exact hs.transfer_reads h (isTransfer_csr (write := false) hc) (csrRegno a).2 (csrListed a)
      (transferReg_csr_read present)
  case csrWrite =>
    have frame := csrWrite_frame hw
    have dm := csrWrite_data0 hw
    rw [← csrExists_commandStart s rest c] at present
    have transfers := (transferReg_csr_write present writable).trans
      (congrArg some (csrWrite_commandStart hw rest c))
    refine ⟨_, hs.step_transfer h (isTransfer_csr (write := true) hc) (csrRegno a).2 (csrListed a)
      transfers frame.pins frame.scu (congrArg Dm.ndmreset dm :), ?_, ?_⟩
    · rw [← dm]
      rfl
    · rw [← dm, ← frame.tap, ← frame.inputs]
      rfl
  case csrRefused =>
    rw [← csrExists_commandStart s rest c] at present
    have transfers := (transferReg_csr_write present writable).trans
      (congrArg some (csrWrite_commandStart_refused hr rest c))
    exact hs.step_transfer_refused h (isTransfer_csr (write := true) hc) (csrRegno a).2 (csrListed a) transfers
  case csrAbsent =>
    rw [← csrExists_commandStart s rest c] at absent
    exact hs.transfer_fails h (isTransfer_csr (write := false) hc) (csrRegno a).2 (csrListed a)
      (transferReg_noCsr false (.inl absent))
  case csrUnwritable =>
    rw [← csrExists_commandStart s rest c] at absent
    exact hs.transfer_fails h (isTransfer_csr (write := true) hc) (csrRegno a).2 (csrListed a)
      (transferReg_noCsr true (absent.imp_right (fun readOnly => ⟨rfl, readOnly⟩)))
  case unlisted =>
    have fails {write : Bool} (hc : IsTransfer c write regno) : fails 2 :=
      (hs.commands h).register_unsupported hs.noHalt hc.cmdtype (hc.unsupported.trans (decide_eq_true high))
    rcases hc with hc | hc
    · exact fails (isTransfer_of (write := false) hc)
    · exact fails (isTransfer_of (write := true) hc)
  case unknownType =>
    exact State.Commands.fails ⟨h, hdm, idle, noError⟩ (runCommand_unsupported noError noHalt notRegister notMemory)
  case unsupported =>
    exact State.Commands.register_unsupported ⟨h, hdm, idle, noError⟩ noHalt type unsupported
  case nothing =>
    have answer := (runCommand_register (s := s.commandStart rest c) noError noHalt type).trans
      (accessRegister_halted supported halted noWait)
    have noTransfer' : (s.commandStart rest c).dm.command.getLsbD 17 = false := noTransfer
    have noPostexec' : (s.commandStart rest c).dm.command.getLsbD 18 = false := noPostexec
    rw [noTransfer', noPostexec'] at answer
    exact State.Commands.reads ⟨h, hdm, idle, noError⟩ answer
  case sampled =>
    exact State.Commands.samples ⟨h, hdm, idle, noError⟩ noHalt type supported running samples
      (by rw [runningRead_csr regno, csrRead_commandStart, regno_low])
  case pc =>
    exact State.Commands.samples ⟨h, hdm, idle, noError⟩ noHalt type supported running samples (by rw [regno]; rfl)
  case notSampled =>
    refine State.Commands.not_samples ⟨h, hdm, idle, noError⟩ noHalt type supported running ?_
    exact other.imp_right runningRead_none
  case halting =>
    exact State.Commands.step_refused ⟨h, hdm, idle, noError⟩ (runCommand_halting noError halt)
  case ignored =>
    exact ⟨_, hdm.step_writeDm h (by decide) rfl (by rw [idle]; rfl) (if_pos error) rfl rfl rfl, rfl⟩
  case busy =>
    obtain ⟨u, hu, dm, hart⟩ := hdm.leaves_busy h (by decide) rfl busy rfl
    exact ⟨u, hu, hart, dm⟩

end Sys2Proof.Machine
end

section
/-! The Access Memory command (O57): what an access answers, by where it goes, and what the command makes of the answer. -/
namespace Sys2Proof.Machine

/-! ## The answers of an access (R110, R111) -/

section
variable {s : State} {a : Word} {n : Nat}

theorem memRead_raises (h : a.toNat % n ≠ 0 ∨ ErrorAt s false a n ∨ (inTimer s.cfg a = true ∧ n ≠ 4)) :
    ∃ e, memRead s a n = .exn e a := by
  unfold memRead
  split
  · exact ⟨_, rfl⟩
  · next aligned =>
    rcases h with misaligned | ⟨-, ram, outside, answered, error⟩ | ⟨timer, narrow⟩
    · exact absurd misaligned aligned
    · exact ⟨_, by simp only [ram, outside, answered, error]; rfl⟩
    · exact ⟨_, by rw [if_pos timer, if_pos narrow]⟩

theorem memWrite_raises (h : a.toNat % n ≠ 0 ∨ ErrorAt s true a n ∨ (inTimer s.cfg a = true ∧ n ≠ 4)) (v : Word) :
    ∃ e, memWrite s a n v = .exn e a := by
  unfold memWrite
  split
  · exact ⟨_, rfl⟩
  · next aligned =>
    rcases h with misaligned | ⟨-, ram, outside, answered, error⟩ | ⟨timer, narrow⟩
    · exact absurd misaligned aligned
    · exact ⟨_, by simp only [ram, outside, answered, error]; rfl⟩
    · exact ⟨_, by rw [if_pos timer, if_pos narrow]⟩

theorem memRead_stuck (h : HangAt s false a n) : memRead s a n = .stuck := by
  obtain ⟨aligned, ram, outside, silent⟩ := h
  simp only [memRead, aligned, ram, outside, silent]
  rfl

theorem memWrite_stuck (h : HangAt s true a n) (v : Word) : memWrite s a n v = .stuck := by
  obtain ⟨aligned, ram, outside, silent⟩ := h
  simp only [memWrite, aligned, ram, outside, silent]
  rfl

theorem memRead_timer (aligned : a.toNat % 4 = 0) (timer : inTimer s.cfg a = true) :
    memRead s a 4 = timerRead s.timer (timerOffset a) := by
  rw [memRead, if_neg (fun misaligned => misaligned aligned), if_pos timer]
  rfl

/-- The timer takes a store of a word and is the only thing that changes. -/
theorem memWrite_timer (aligned : a.toNat % 4 = 0) (timer : inTimer s.cfg a = true) {v : Word} {t : Timer}
    (ht : timerWrite s.timer (Config.prescalerAfterWrite s.freeCtr) (Config.settleAfterWrite s.freeCtr) (timerOffset a) v =
      .ok t) : memWrite s a 4 v = .ok { s with timer := t } := by
  rw [memWrite, if_neg (fun misaligned => misaligned aligned), if_pos timer, ht]
  rfl

theorem memWrite_timer_refused (aligned : a.toNat % 4 = 0) (timer : inTimer s.cfg a = true) {v : Word} {r : Refusal}
    (hr : timerWrite s.timer (Config.prescalerAfterWrite s.freeCtr) (Config.settleAfterWrite s.freeCtr) (timerOffset a) v =
      .refused r) : memWrite s a 4 v = .refused r := by
  rw [memWrite, if_neg (fun misaligned => misaligned aligned), if_pos timer, hr]
  rfl

end

/-! ## The registers of the timer (R50 to R53) -/

theorem timerRead_wordAt {t : Timer} {off : Nat} {v : Word} (h : t.wordAt off = some v) : timerRead t off = .ok v := by
  unfold Timer.wordAt at h
  split_ifs at h with h0 h1 h2 h3 h4 h5 <;> subst off <;> cases h <;> rfl

theorem setLo64_eq (x : BitVec 64) (v : Word) : setLo64 x v = x.extractLsb' 32 32 ++ v := by
  apply BitVec.eq_of_toNat_eq
  have := v.isLt
  have := (hi64 x).isLt
  rw [setLo64, BitVec.toNat_ofNat, toNat_append_eq_add, hi64]
  simp only [hi64] at this
  omega

theorem setHi64_eq (x : BitVec 64) (v : Word) : setHi64 x v = v ++ x.extractLsb' 0 32 := by
  apply BitVec.eq_of_toNat_eq
  have := v.isLt
  have := (lo64 x).isLt
  rw [setHi64, BitVec.toNat_ofNat, toNat_append_eq_add, lo64]
  simp only [lo64] at this
  omega

/-- A write of a timer register stores the word; one below MTIMECMP may move the ticks (R55, R440; log 8). -/
theorem timerWrite_stored {t tm : Timer} {off : Nat} {v : Word} (p w : Nat) (h : t.stored off v = some tm) :
    timerWrite t p w off v = .ok (if off < 0x10 then tm.unsettle p w else tm) := by
  simp only [Timer.stored, ← setLo64_eq, ← setHi64_eq] at h
  split_ifs at h with h0 h1 h2 h3 h4 h5 <;> subst off <;> cases h <;> rfl

/-- The stored word is not of the prescaler. -/
theorem Timer.stored_ticks {t tm : Timer} {off : Nat} {v : Word} (h : t.stored off v = some tm) :
    tm.prescaler = t.prescaler ∧ tm.settle = t.settle := by
  unfold Timer.stored at h
  split_ifs at h <;> cases h <;> exact ⟨rfl, rfl⟩

/-- What a store to the timer leaves, apart from when it ticks, and where that stays as it was. -/
theorem Timer.unsettle_stored {t tm u : Timer} {off p w : Nat} (hu : u = if off < 0x10 then tm.unsettle p w else tm)
    (ticks : tm.prescaler = t.prescaler ∧ tm.settle = t.settle) :
    { u with prescaler := t.prescaler, settle := t.settle } = tm ∧
      (if off < 0x10 then u.prescaler < tm.div.toNat + 1 else u = tm) := by
  subst hu
  rw [← ticks.1, ← ticks.2]
  split
  · exact ⟨rfl, tm.unsettle_inside p w⟩
  · exact ⟨rfl, rfl⟩

/-- The holes of the block (D24). -/
theorem timerOffset_hole {a : Word} (h : a &&& 0x1C = 0x18 ∨ a &&& 0x1C = 0x1C) (t : Timer) (p w : Nat) (v : Word) :
    timerRead t (timerOffset a) = .refused .timerHole ∧ timerWrite t p w (timerOffset a) v = .refused .timerHole := by
  unfold timerOffset
  rcases h with h | h <;> rw [h] <;> exact ⟨rfl, rfl⟩

/-! ## The bytes of memory (R101) -/

/-- The byte, halfword or word at `a`, zero-extended (D49). -/
theorem State.loaded_eq_bytesAt (s : State) (a : Word) {size : BitVec 2} (h : size ≠ 3) :
    (if size = 0 then (s.byteAt a).setWidth 32 else if size = 1 then (s.halfAt a).setWidth 32 else s.wordAt a) =
      BitVec.ofNat 32 (s.bytesAt a (2 ^ size.toNat)) := by
  have sizes : size = 0 ∨ size = 1 ∨ size = 2 := by
    revert size
    decide
  rcases sizes with rfl | rfl | rfl
  · exact BitVec.eq_of_toNat_eq (by simp [State.byteAt, State.bytesAt])
  · exact BitVec.eq_of_toNat_eq
      (by simp [State.halfAt, State.byteAt, State.bytesAt, toNat_append_byte, Nat.add_comm])
  · exact s.wordAt_eq_bytesAt a

/-- Byte `k` of a word. -/
theorem ofNat_div_eq_extract (v : Word) (k : Nat) : BitVec.ofNat 8 (v.toNat / 256 ^ k) = v.extractLsb' (8 * k) 8 := by
  apply BitVec.eq_of_toNat_eq
  rw [BitVec.toNat_ofNat, toNat_extract, Nat.pow_mul]

/-! ## The fields of an Access Memory command (R537) -/

/-- The options that no Access Memory command may have. -/
def memoryUnsupported (c : Word) : Bool :=
  c.extractLsb' 0 16 != 0 || c.extractLsb' 17 2 != 0 || c.getLsbD 19 || c.getLsbD 23 || decide (2 < (c.extractLsb' 20 3).toNat)

theorem memoryUnsupported_iff (c : Word) : memoryUnsupported c = true ↔
    ((c.extractLsb' 0 16).toNat ≠ 0 ∨ (c.extractLsb' 17 2).toNat ≠ 0 ∨ c.getLsbD 19 = true ∨ c.getLsbD 23 = true ∨
      2 < (c.extractLsb' 20 3).toNat) := by
  have zero {n : Nat} (x : BitVec n) : x.toNat ≠ 0 ↔ x ≠ 0 := by
    rw [ne_eq, ne_eq, ← BitVec.toNat_inj]
    rfl
  simp only [memoryUnsupported, Bool.or_eq_true, bne_iff_ne, decide_eq_true_eq, zero, or_assoc]

/-- `c` loads or stores `2 ^ size` bytes, without the options that are not supported. -/
structure IsAccess (c : Word) (size : BitVec 2) (write : Bool) : Prop where
  cmdtype : c.extractLsb' 24 8 = 2
  supported : memoryUnsupported c = false
  size : (c.extractLsb' 20 3).toNat = size.toNat
  direction : c.getLsbD 16 = write

theorem isAccess_of {c : Word} {size : BitVec 2} {write : Bool} (narrow : size ≠ 3)
    (hc : c = 0x02000000#32 ||| (size.setWidth 32 <<< 20) ||| (if write then 0x00010000 else 0)) : IsAccess c size write := by
  have fields : c.extractLsb' 24 8 = 2 ∧ memoryUnsupported c = false ∧ (c.extractLsb' 20 3).toNat = size.toNat ∧
      c.getLsbD 16 = write := by
    subst hc
    revert size write
    decide
  obtain ⟨cmdtype, supported, size, direction⟩ := fields
  exact ⟨cmdtype, supported, size, direction⟩

/-! ## What the command makes of the answer (R537, R552) -/

/-- The command after the access has answered; `f` is what a value does. -/
def State.endAccess {α : Type} (s : State) (f : α → State) : Access α → Result
  | .ok v => .next (f v)
  | .exn _ _ => .next (s.failCommand 3)
  | .refused r => .refused r
  | .stuck => .next s.hangCommand

section
variable {s : State} {c : Word} {size : BitVec 2}

theorem accessMemory_unsupported (h : memoryUnsupported c = true) : accessMemory s c = .next (s.failCommand 2) :=
  if_pos ((memoryUnsupported_iff c).1 h)

theorem accessMemory_running (h : memoryUnsupported c = false) (running : s.debugMode = false) :
    accessMemory s c = .next (s.failCommand 4) :=
  (if_neg (fun unsupported => by rw [(memoryUnsupported_iff c).2 unsupported] at h; cases h)).trans
    (if_pos (by rw [running]; rfl))

/-- On a halted hart that does not wait, the answer of the access decides. -/
theorem accessMemory_halted (h : memoryUnsupported c = false) (halted : s.debugMode = true) (noWait : s.waiting = false) :
    accessMemory s c =
      if c.getLsbD 16 then s.endAccess id (memWrite s s.dm.data1 (2 ^ (c.extractLsb' 20 3).toNat) s.dm.data0)
      else s.endAccess s.setData0 (memRead s s.dm.data1 (2 ^ (c.extractLsb' 20 3).toNat)) := by
  refine (if_neg (fun unsupported => by rw [(memoryUnsupported_iff c).2 unsupported] at h; cases h)).trans
    ((if_neg (by rw [halted]; simp)).trans ((if_neg (by rw [noWait]; simp)).trans ?_))
  split
  · cases memWrite s s.dm.data1 (2 ^ (c.extractLsb' 20 3).toNat) s.dm.data0 <;> rfl
  · cases memRead s s.dm.data1 (2 ^ (c.extractLsb' 20 3).toNat) <;> rfl

end

/-! ## The step that is an Access Memory command -/

section
variable {s : State} {c : Word} {size : BitVec 2} {rest : List HostEvent}

theorem State.CommandReady.runCommand_load (hs : s.CommandReady) (hc : IsAccess c size false) :
    runCommand (s.commandStart rest c) =
      (s.commandStart rest c).endAccess (s.commandStart rest c).setData0
        (memRead (s.commandStart rest c) s.dm.data1 (2 ^ size.toNat)) := by
  have answer := (runCommand_memory (s := s.commandStart rest c) hs.noError hs.noHalt hc.cmdtype).trans
    (accessMemory_halted (s := s.commandStart rest c) (c := c) hc.supported hs.halted hs.noWait)
  rwa [hc.direction, hc.size] at answer

theorem State.CommandReady.runCommand_store (hs : s.CommandReady) (hc : IsAccess c size true) :
    runCommand (s.commandStart rest c) =
      (s.commandStart rest c).endAccess id
        (memWrite (s.commandStart rest c) s.dm.data1 (2 ^ size.toNat) s.dm.data0) := by
  have answer := (runCommand_memory (s := s.commandStart rest c) hs.noError hs.noHalt hc.cmdtype).trans
    (accessMemory_halted (s := s.commandStart rest c) (c := c) hc.supported hs.halted hs.noWait)
  rwa [hc.direction, hc.size] at answer

/-- A load that answers `w`. -/
theorem State.CommandReady.loads {w : Word} (hs : s.CommandReady) (h : s.inputs = .dmiWrite 0x17 c :: rest)
    (hc : IsAccess c size false) (hw : memRead (s.commandStart rest c) s.dm.data1 (2 ^ size.toNat) = .ok w) :
    ∃ u : State, step s = .next u.tick ∧ SameHart s u ∧ u.dm = { s.dm with command := c, data0 := w } := by
  have answer := hs.runCommand_load (rest := rest) hc
  rw [hw] at answer
  exact (hs.commands h).leaves answer rfl

/-- A store that goes on to `t`. -/
theorem State.CommandReady.stores {t : State} (hs : s.CommandReady) (h : s.inputs = .dmiWrite 0x17 c :: rest)
    (hc : IsAccess c size true)
    (ht : memWrite (s.commandStart rest c) s.dm.data1 (2 ^ size.toNat) s.dm.data0 = .ok t) (pins : t.pins = s.pins)
    (scu : t.scu = s.scu) (dm : t.dm = { s.dm with command := c }) : step s = .next t.tick := by
  have answer := hs.runCommand_store (rest := rest) hc
  rw [ht] at answer
  exact (hs.commands h).step_next answer pins scu (by rw [dm])

/-- An access that is refused. -/
theorem State.CommandReady.access_refused {write : Bool} {r : Refusal} (hs : s.CommandReady)
    (h : s.inputs = .dmiWrite 0x17 c :: rest) (hc : IsAccess c size write)
    (load : memRead (s.commandStart rest c) s.dm.data1 (2 ^ size.toNat) = .refused r)
    (store : memWrite (s.commandStart rest c) s.dm.data1 (2 ^ size.toNat) s.dm.data0 = .refused r) :
    step s = .refused r := by
  cases write with
  | false =>
    have answer := hs.runCommand_load (rest := rest) hc
    rw [load] at answer
    exact (hs.commands h).step_refused answer
  | true =>
    have answer := hs.runCommand_store (rest := rest) hc
    rw [store] at answer
    exact (hs.commands h).step_refused answer

/-- An access that raises is a command that fails with cmderr 3 (R537, R552). -/
theorem State.CommandReady.access_raises {write : Bool} (hs : s.CommandReady) (h : s.inputs = .dmiWrite 0x17 c :: rest)
    (hc : IsAccess c size write)
    (fault : s.dm.data1.toNat % 2 ^ size.toNat ≠ 0 ∨ ErrorAt s write s.dm.data1 (2 ^ size.toNat) ∨
      (inTimer s.cfg s.dm.data1 = true ∧ 2 ^ size.toNat ≠ 4)) :
    ∃ u : State, step s = .next u.tick ∧ SameHart s u ∧
      u.dm = { s.dm with command := c, cmderr := 3, data0 := u.dm.data0, data1 := u.dm.data1 } := by
  refine (hs.commands h).fails ?_
  cases write with
  | false =>
    obtain ⟨e, raises⟩ := memRead_raises (s := s.commandStart rest c) fault
    rw [hs.runCommand_load hc, raises]
    rfl
  | true =>
    obtain ⟨e, raises⟩ := memWrite_raises (s := s.commandStart rest c) fault s.dm.data0
    rw [hs.runCommand_store hc, raises]
    rfl

/-- An access that is never answered leaves the hart waiting and the command executing (R533, R614; log 34). -/
theorem State.CommandReady.access_hangs {write : Bool} (hs : s.CommandReady) (h : s.inputs = .dmiWrite 0x17 c :: rest)
    (hc : IsAccess c size write) (silent : HangAt s write s.dm.data1 (2 ^ size.toNat)) :
    ∃ u : State, step s = .next u.tick ∧ u.waiting = true ∧ SameHart s { u with waiting := s.waiting } ∧
      u.dm = { s.dm with command := c, busy := true } := by
  have answer : runCommand (s.commandStart rest c) = .next (s.commandStart rest c).hangCommand := by
    cases write with
    | false =>
      rw [hs.runCommand_load hc, memRead_stuck (s := s.commandStart rest c) silent]
      rfl
    | true =>
      rw [hs.runCommand_store hc, memWrite_stuck (s := s.commandStart rest c) silent]
      rfl
  exact ⟨_, (hs.commands h).step_next answer rfl rfl rfl, rfl, sameHart_debugger s _ _ rest, rfl⟩

end

/-- Settles O57: the fields of COMMAND and the mode of the hart say whether the access is made, and where DATA1 lies says what
it answers. -/
theorem accessMemoryCommand : Obligations.AccessMemoryCommand := by
  intro s rest c h
  refine ⟨fun hdm idle noError noHalt type => ⟨fun unsupported => ?unsupported, fun supported running => ?running⟩,
    fun size write narrow hs wf hc => ?_⟩
  case unsupported =>
    exact State.Commands.fails ⟨h, hdm, idle, noError⟩
      ((runCommand_memory (s := s.commandStart rest c) noError noHalt type).trans (accessMemory_unsupported unsupported))
  case running =>
    exact State.Commands.fails ⟨h, hdm, idle, noError⟩
      ((runCommand_memory (s := s.commandStart rest c) noError noHalt type).trans (accessMemory_running supported running))
  have fields := isAccess_of narrow hc
  refine ⟨fun load ram => ?load, fun store ram => ?store, fun word aligned timer => ⟨fun load v hv => ?timerLoad,
    fun store tm htm => ?timerStore, fun hole => ?hole⟩, fun fault => hs.access_raises h fields fault,
    fun silent => hs.access_hangs h fields silent⟩
  case load =>
    subst load
    refine hs.loads h fields ((memRead_ram (s := s.commandStart rest c) ram).trans ?_)
    exact congrArg Access.ok ((s.commandStart rest c).loaded_eq_bytesAt _ narrow).symm
  case store =>
    subst store
    have small : 2 ^ size.toNat ≤ 2 ^ 32 := Nat.pow_le_pow_right (by decide) (by omega)
    have goes := memWrite_ram (s := s.commandStart rest c) ram s.dm.data0
    have frame := State.store_eq (s.commandStart rest c) s.dm.data1 s.dm.data0.toNat (2 ^ size.toNat)
    have dm : ((s.commandStart rest c).store s.dm.data1 s.dm.data0.toNat (2 ^ size.toNat)).dm = { s.dm with command := c } := by
      rw [frame]
      rfl
    refine ⟨_, hs.stores h fields goes (by rw [frame]; rfl) (by rw [frame]; rfl) dm, dm, fun k hk => ?_, fun b hb => ?_, ?_⟩
    · rw [State.store_byteAt, State.byteAt_storeBytes_same (s := s.commandStart rest c) wf _ _ _ k hk small,
        ofNat_div_eq_extract]
    · rw [State.store_byteAt, State.byteAt_storeBytes_other (s := s.commandStart rest c) wf _ _ _ _ hb]
      rfl
    · rw [frame]
      exact sameHart_debugger s _ _ rest
  case timerLoad =>
    subst load word
    exact hs.loads h fields ((memRead_timer (s := s.commandStart rest c) aligned timer).trans (timerRead_wordAt hv))
  case timerStore =>
    subst store word
    have written := timerWrite_stored (Config.prescalerAfterWrite (s.commandStart rest c).freeCtr)
      (Config.settleAfterWrite (s.commandStart rest c).freeCtr) htm
    obtain ⟨registers, ticks⟩ := Timer.unsettle_stored rfl (Timer.stored_ticks htm)
    exact ⟨_, hs.stores h fields (memWrite_timer (s := s.commandStart rest c) aligned timer written) rfl rfl rfl, rfl,
      registers, ticks, sameHart_debugger s _ _ rest⟩
  case hole =>
    subst word
    obtain ⟨load, store⟩ := timerOffset_hole hole s.timer (Config.prescalerAfterWrite (s.commandStart rest c).freeCtr)
      (Config.settleAfterWrite (s.commandStart rest c).freeCtr) s.dm.data0
    exact hs.access_refused h fields ((memRead_timer (s := s.commandStart rest c) aligned timer).trans load)
      (memWrite_timer_refused (s := s.commandStart rest c) aligned timer store)

end Sys2Proof.Machine
end

section
/-! Program Buffer runs (O58): what an instruction leaves of the hart in Debug Mode, and one word of the buffer after
another. -/
namespace Sys2Proof.Machine

/-! ## Instructions in Debug Mode (R552, R553) -/

/-- The run goes on: the mode, the configuration and what comes from outside are as before. -/
structure DebugFrame (s t : State) : Prop where
  pb : t.pb = s.pb
  cfg : t.cfg = s.cfg
  debugMode : t.debugMode = s.debugMode
  pins : t.pins = s.pins
  scu : t.scu = s.scu

/-- An instruction in Debug Mode ends the run and does nothing else, or the run goes on. -/
def DebugRuns (s t : State) : Prop := t = { s with pb := .ended } ∨ t = { s with pb := .exception } ∨ DebugFrame s t

theorem raise_debugRuns {s t : State} (halted : s.debugMode = true) {e : Exc} {tval : Word} (h : raise s e tval = .next t) :
    DebugRuns s t := by
  rw [raise_debug halted] at h
  cases h
  exact .inr (.inl rfl)

theorem retire_debugRuns {s t : State} (frame : DebugFrame s t) (len : Nat) : DebugRuns s (t.retire len) :=
  .inr (.inr ⟨by simp [frame.pb], by simp [frame.cfg], by simp [frame.debugMode], by simp [frame.pins], by simp [frame.scu]⟩)

theorem wait_debugRuns (s : State) : DebugRuns s s.wait := .inr (.inr ⟨rfl, rfl, rfl, rfl, rfl⟩)

theorem writeBack_debugRuns {s t : State} {rd : Reg} {v : Word} {len : Nat} (h : writeBack s rd v len = .next t) :
    DebugRuns s t := by
  cases h
  exact retire_debugRuns ⟨by simp, by simp, by simp, by simp, by simp⟩ len

theorem loadTo_debugRuns {s t : State} (halted : s.debugMode = true) {rd : Reg} {a : Word} {n len : Nat}
    {ext : Word → Word} (h : loadTo s rd a n ext len = .next t) : DebugRuns s t := by
  unfold loadTo at h
  split at h
  · exact writeBack_debugRuns h
  · exact raise_debugRuns halted h
  · cases h
  · cases h
    exact wait_debugRuns s

theorem memWrite_debugFrame {s t : State} {a : Word} {n : Nat} {v : Word} (h : memWrite s a n v = .ok t) :
    DebugFrame s t := by
  obtain ⟨-, ⟨-, -, tm, -, rfl⟩ | ⟨-, rfl⟩⟩ := memWrite_ok h
  · exact ⟨rfl, rfl, rfl, rfl, rfl⟩
  · rw [State.store_eq]
    exact ⟨rfl, rfl, rfl, rfl, rfl⟩

theorem storeTo_debugRuns {s t : State} (halted : s.debugMode = true) {a v : Word} {n len : Nat}
    (h : storeTo s a n v len = .next t) : DebugRuns s t := by
  unfold storeTo at h
  split at h
  · next written =>
    cases h
    exact retire_debugRuns (memWrite_debugFrame written) len
  · exact raise_debugRuns halted h
  · cases h
  · cases h
    exact wait_debugRuns s

theorem csrInstr_debugRuns {s t : State} (halted : s.debugMode = true) {instr : Word} {rd : Reg} {a : BitVec 12}
    {writes plain : Bool} {new : Word → Word} (h : csrInstr s instr rd a writes plain new = .next t) : DebugRuns s t := by
  obtain ⟨-, raises⟩ | ⟨-, -, w, written, rfl⟩ := csrInstr_cases h
  · exact raise_debugRuns halted raises
  · have frame : CsrFrame s w := by
      cases writes
      · cases written
        constructor <;> rfl
      · exact csrWrite_frame written
    have counted : CsrFrame w (State.countCsr s w a writes) := by
      unfold State.countCsr
      split <;> constructor <;> rfl
    exact .inr (.inr ⟨by simp [counted.pb, frame.pb], by simp [counted.cfg, frame.cfg],
      by simp [counted.debugMode, frame.debugMode], by simp [counted.pins, frame.pins], by simp [counted.scu, frame.scu]⟩)

/-- In Debug Mode every instruction but the branches and jumps, which are refused, leaves the mode as it is. -/
theorem exec_debugRuns {i : Instr} {s t : State} (halted : s.debugMode = true) (h : exec i s = .next t) : DebugRuns s t := by
  have shape := exec_shape i s
  revert h
  generalize exec i s = r at shape
  intro h
  have same : DebugFrame s s := ⟨rfl, rfl, rfl, rfl, rfl⟩
  cases shape with
  | writeBack => exact writeBack_debugRuns h
  | jump => rw [jumpTo_debug halted] at h; cases h
  | branch c off len =>
    cases c with
    | false =>
      cases h
      exact retire_debugRuns same len
    | true =>
      rw [branchIf_taken, jumpTo_debug halted] at h
      cases h
  | load => exact loadTo_debugRuns halted h
  | store => exact storeTo_debugRuns halted h
  | nop len =>
    cases h
    exact retire_debugRuns same len
  | fenceI len =>
    cases h
    exact retire_debugRuns (s := s) (t := s.flushFetch) ⟨rfl, rfl, rfl, rfl, rfl⟩ len
  | wfi len =>
    cases h
    rw [(waitForInterrupt_cases s).1 (.inl halted)]
    exact retire_debugRuns same len
  | exception => exact raise_debugRuns halted h
  | breakpoint =>
    rw [breakpoint_debug halted] at h
    cases h
    exact .inl rfl
  | trapReturn =>
    unfold State.trapReturn at h
    dsimp only at h
    split at h
    · cases h
    · cases h
      exact .inr (.inr ⟨rfl, rfl, rfl, rfl, rfl⟩)
  | csr => exact csrInstr_debugRuns halted h
  | refused => cases h

theorem DebugRuns.goesOn {s t : State} (h : DebugRuns s t) (pb : t.pb = .none) : DebugFrame s t := by
  rcases h with rfl | rfl | frame
  · cases pb
  · cases pb
  · exact frame

theorem DebugRuns.ended {s t : State} (h : DebugRuns s t) (before : s.pb = .none) (pb : t.pb = .ended) :
    t = { s with pb := .ended } := by
  rcases h with same | rfl | frame
  · exact same
  · cases pb
  · rw [frame.pb, before] at pb
    cases pb

theorem DebugRuns.raised {s t : State} (h : DebugRuns s t) (before : s.pb = .none) (pb : t.pb = .exception) :
    t = { s with pb := .exception } := by
  rcases h with rfl | same | frame
  · cases pb
  · exact same
  · rw [frame.pb, before] at pb
    cases pb

/-! ## The words of the buffer (R538) -/

theorem pbHalf_word (s : State) {k : Nat} (hk : k < 6) :
    pbHalf s (4 * k / 2) = s.dm.progbuf[k].extractLsb' 0 16 ∧
    pbHalf s (4 * k / 2 + 1) = s.dm.progbuf[k].extractLsb' 16 16 := by
  have word (j : Nat) (hj : j < 2) : pbHalf s (4 * k / 2 + j) = s.dm.progbuf[k].extractLsb' (16 * j) 16 := by
    have index : (4 * k / 2 + j) / 2 = k ∧ (4 * k / 2 + j) % 2 = j := by omega
    rw [pbHalf, index.1, index.2, Vector.getElem?_eq_getElem hk]
  exact ⟨word 0 (by decide), word 1 (by decide)⟩

theorem halves_eq (w : Word) :
    BitVec.ofNat 32 ((w.extractLsb' 0 16).toNat + 65536 * (w.extractLsb' 16 16).toNat) = w := by
  apply BitVec.eq_of_toNat_eq
  have := w.isLt
  rw [BitVec.toNat_ofNat, toNat_extract, toNat_extract]
  omega

/-- One instruction of a run: it executes, and the run goes on with the next word, or ends. -/
theorem pbRun_word {s t : State} {i : Instr} {k : Nat} (fuel : Nat) (hk : k < 6)
    (long : isShort s.cfg (s.dm.progbuf[k].extractLsb' 0 16) = false) (hi : decodeWindow s.cfg s.dm.progbuf[k] = .ok i)
    (ht : exec i { s with pb := .none } = .next t) : pbRun (fuel + 1) (4 * k) s =
      if t.pb = .none ∧ t.waiting = false then pbRun fuel (4 * (k + 1)) t.tick else .next t := by
  obtain ⟨low, high⟩ := pbHalf_word s hk
  have notLast : (4 * k == 22) = false := by
    rw [beq_eq_false_iff_ne]
    omega
  rw [pbRun, if_neg (by omega)]
  simp only [low, high, long, notLast, Bool.and_false, Bool.false_eq_true, if_false, halves_eq, hi, ht]
  rfl

/-- The run comes to the end of the buffer. -/
theorem pbRun_end (fuel : Nat) (s : State) : pbRun (fuel + 1) (4 * 6) s = .next { s with pb := .ended } :=
  if_pos (by decide)

/-- A word of the base set, with no register that RV32E lacks, decodes in every configuration. -/
theorem decodeWindow_base {cfg : Config} {w : Word} {i : Instr} (long : isShort cfg (w.extractLsb' 0 16) = false)
    (decodes : decode32 w = .ok i) (noM : i.needsM = false) (notShort : i.isCompressed = false)
    (regs : i.fullRegs.all (fun r => r.toNat < 16) = true) : decodeWindow cfg w = .ok i := by
  rw [decodeWindow_eq_bind, if_neg (Bool.eq_false_iff.1 long), decodes]
  refine (if_pos ?_).trans (if_pos ?_)
  · simp only [Instr.extOk, noM, notShort, Bool.not_false, Bool.true_or, Bool.and_self]
  · simp only [Instr.regsOk, regs, Bool.or_true]

/-- EBREAK ends the run (R553). -/
theorem pbRun_ebreak {s : State} {k : Nat} (fuel : Nat) (hk : k < 6) (word : s.dm.progbuf[k] = 0x00100073)
    (halted : s.debugMode = true) : pbRun (fuel + 1) (4 * k) s = .next { s with pb := .ended } := by
  have long : isShort s.cfg ((0x00100073 : Word).extractLsb' 0 16) = false := Bool.and_false _
  have decodes : decodeWindow s.cfg 0x00100073 = .ok .ebreak := decodeWindow_base long rfl rfl rfl rfl
  rw [← word] at long decodes
  exact (pbRun_word fuel hk long decodes (breakpoint_debug (s := { s with pb := .none }) halted)).trans
    (if_neg (fun goesOn => PbStatus.noConfusion goesOn.1))

/-! ## The command that runs the buffer (R535, R538) -/

theorem State.withPb_self {s : State} {p : PbStatus} (h : s.pb = p) : { s with pb := p } = s := by
  subst h
  rfl

theorem runProgbuf_ended {s t : State} (h : pbRun 13 0 { s with pb := .none } = .next t) (noWait : t.waiting = false)
    (ended : t.pb ≠ .exception) : runProgbuf s = .next ({ t with pb := .none }).spendData1 := by
  rw [runProgbuf, h]
  exact (if_neg (by rw [noWait]; simp)).trans (if_neg ended)

theorem runProgbuf_exception {s t : State} (h : pbRun 13 0 { s with pb := .none } = .next t) (noWait : t.waiting = false)
    (raised : t.pb = .exception) : runProgbuf s = .next (({ t with pb := .none }).failCommand 3) := by
  rw [runProgbuf, h]
  exact (if_neg (by rw [noWait]; simp)).trans (if_pos raised)

/-- Postexec alone runs the buffer. -/
theorem State.CommandReady.runs {s : State} (hs : s.CommandReady) (rest : List HostEvent) :
    runCommand (s.commandStart rest 0x00040000) = runProgbuf (s.commandStart rest 0x00040000) :=
  (runCommand_register (s := s.commandStart rest 0x00040000) hs.noError hs.noHalt
    (show (0x00040000 : Word).extractLsb' 24 8 = 0 by decide)).trans
    (accessRegister_halted (s := s.commandStart rest 0x00040000) (c := 0x00040000) rfl hs.halted hs.noWait)

/-! ## A buffer of NOPs -/

/-- What a run of NOPs leaves as it was. -/
structure Idles (s t : State) : Prop where
  cfg : t.cfg = s.cfg
  regs : t.regs = s.regs
  pc : t.pc = s.pc
  debugMode : t.debugMode = s.debugMode
  waiting : t.waiting = s.waiting
  pins : t.pins = s.pins
  dpc : t.dpc = s.dpc
  scu : t.scu = s.scu
  dm : t.dm = s.dm
  mem : t.mem = s.mem

theorem Idles.trans {s t u : State} (first : Idles s t) (second : Idles t u) : Idles s u where
  cfg := second.cfg.trans first.cfg
  regs := second.regs.trans first.regs
  pc := second.pc.trans first.pc
  debugMode := second.debugMode.trans first.debugMode
  waiting := second.waiting.trans first.waiting
  pins := second.pins.trans first.pins
  dpc := second.dpc.trans first.dpc
  scu := second.scu.trans first.scu
  dm := second.dm.trans first.dm
  mem := second.mem.trans first.mem

/-- A NOP of the run, the clock included. -/
theorem idles_nop {s : State} (halted : s.debugMode = true) : Idles s (({ s with pb := .none } : State).retire 4).tick := by
  have pc := State.retire_pc_debug (s := { s with pb := .none }) halted 4
  constructor
  case pc => rw [State.tick_pc, pc]
  all_goals simp

theorem pbRun_nops {s : State} {m : Nat} (hm : m ≤ 6) (halted : s.debugMode = true) (noWait : s.waiting = false)
    (nops : s.dm.progbuf = Vector.replicate 6 0x00000013) :
    ∃ t, pbRun (7 + m) (4 * (6 - m)) s = .next { t with pb := .ended } ∧ Idles s t := by
  induction m generalizing s with
  | zero => exact ⟨s, pbRun_end 6 s, by constructor <;> rfl⟩
  | succ m ih =>
    have hk : 6 - (m + 1) < 6 := by omega
    have next : 6 - (m + 1) + 1 = 6 - m := by omega
    have word : s.dm.progbuf[6 - (m + 1)] = 0x00000013 := by simp only [nops, Vector.getElem_replicate]
    have long : isShort s.cfg ((0x00000013 : Word).extractLsb' 0 16) = false := Bool.and_false _
    have decodes : decodeWindow s.cfg 0x00000013 = .ok (.addi 0 0 0) := decodeWindow_base long rfl rfl rfl rfl
    rw [← word] at long decodes
    have step := pbRun_word (7 + m) hk long decodes (t := ({ s with pb := .none } : State).retire 4) rfl
    rw [if_pos (by simp [noWait]), next] at step
    have idles := idles_nop halted
    obtain ⟨t, run, rest⟩ := ih (s := (({ s with pb := .none } : State).retire 4).tick) (by omega)
      (idles.debugMode.trans halted) (idles.waiting.trans noWait) (by rw [idles.dm, nops])
    exact ⟨t, step.trans run, idles.trans rest⟩

/-- Settles O58: the first word executes and the run ends by it, by the EBREAK after it, or at the end of six NOPs. -/
theorem programBufferRun : Obligations.ProgramBufferRun := by
  intro s rest h hs pb
  have commands := hs.commands h
  refine ⟨⟨(s.dmiStart rest 0x17).tap, ?_⟩, fun nops => ?nops⟩
  case nops =>
    obtain ⟨t, run, idles⟩ := pbRun_nops (s := { s.commandStart rest 0x00040000 with pb := .none }) (m := 6) (le_refl 6)
      hs.halted hs.noWait nops
    have ends := (hs.runs rest).trans
      (runProgbuf_ended run (idles.waiting.trans hs.noWait) (fun raised => PbStatus.noConfusion raised))
    refine ⟨_, commands.step_next ends idles.pins idles.scu (congrArg Dm.ndmreset idles.dm :),
      (congrArg Dm.cmderr idles.dm :).trans hs.noError, idles.debugMode.trans hs.halted, idles.pc, idles.dpc, idles.mem,
      fun r => ?_⟩
    exact congrArg (fun regs : Vector Word 32 => if r = 0#5 then 0#32 else regs[r.toNat]'(r.isLt)) idles.regs
  intro start i t long decodes executes noWait
  have startPb : { start with pb := .none } = start := State.withPb_self (s := start) pb
  have executes' : exec i { start with pb := .none } = .next t := by rw [startPb, executes]
  have first := pbRun_word (s := start) (k := 0) 12 (by decide) long decodes executes'
  rw [← startPb] at first
  have stops (ended : t.pb ≠ .none) : pbRun 13 0 { start with pb := .none } = .next t :=
    first.trans (if_neg (fun goesOn => ended goesOn.1))
  have runs := exec_debugRuns (s := start) hs.halted executes
  refine ⟨fun goesOn second => ?goesOn, fun ended => ?ended, fun raised => ?raised⟩
  case goesOn =>
    have frame := runs.goesOn goesOn
    have dm := (exec_shape i start).leavesDm.dm t executes
    have progbuf : t.tick.dm.progbuf = s.dm.progbuf := (congrArg Dm.progbuf (State.tick_dm t)).trans (congrArg Dm.progbuf dm :)
    have ndmreset : t.tick.dm.ndmreset = s.dm.ndmreset :=
      (congrArg Dm.ndmreset (State.tick_dm t)).trans (congrArg Dm.ndmreset dm :)
    have halted : t.tick.debugMode = true := (State.tick_debugMode t).trans (frame.debugMode.trans hs.halted)
    have noWaitThen : t.tick.waiting = false := (State.tick_waiting t).trans noWait
    have run := (first.trans (if_pos ⟨goesOn, noWait⟩)).trans
      (pbRun_ebreak (s := t.tick) (k := 1) 11 (by decide) (by simp only [progbuf, second]) halted)
    have ends := (hs.runs rest).trans (runProgbuf_ended run noWaitThen (fun raised => PbStatus.noConfusion raised))
    refine ⟨_, commands.step_next ends ((State.tick_pins t).trans frame.pins) ((State.tick_scu t).trans frame.scu) ndmreset,
      ?_⟩
    rw [State.withPb_self ((State.tick_pb t).trans goesOn), ← State.tick_dm t]
    rfl
  case ended =>
    have same := runs.ended pb ended
    have run := stops (by rw [ended]; exact fun h => PbStatus.noConfusion h)
    have ends := (hs.runs rest).trans (runProgbuf_ended run noWait (by rw [ended]; exact fun h => PbStatus.noConfusion h))
    rw [same, State.withPb_self (s := start) pb] at ends
    exact ⟨_, commands.step_next ends rfl rfl rfl, rfl⟩
  case raised =>
    have same := runs.raised pb raised
    have run := stops (by rw [raised]; exact fun h => PbStatus.noConfusion h)
    have ends := (hs.runs rest).trans (runProgbuf_exception run noWait raised)
    rw [same, State.withPb_self (s := start) pb] at ends
    exact ⟨_, commands.step_next ends rfl rfl rfl, rfl, sameHart_debugger s _ _ rest⟩

end Sys2Proof.Machine
end

section
/-! Address triggers (O52): which of the first triggers match and fire, and the step in which they do. -/
namespace Sys2Proof.Machine

/-! ## The triggers of one instruction (R576 to R578) -/

theorem setHits_cons (t : Trigger) (ts : List Trigger) (m : Bool) (ms : List Bool) :
    setHits (t :: ts) (m :: ms) = (if m then t.setHit else t) :: setHits ts ms := rfl

theorem firing_cons (t : Trigger) (ts : List Trigger) (m : Bool) (ms : List Bool) :
    firing (t :: ts) (m :: ms) = if m && !t.chain then t :: firing ts ms else firing ts ms := by
  simp only [firing, List.zip_cons_cons, List.filter_cons]
  split <;> rfl

/-- The first trigger matches by its condition, the second one unless it is chained to a first one that does not match. -/
def Trigger.matchAfter (x y : Trigger) (pc : Word) (d : DataAccess) : Bool :=
  (if x.chain then x.condition pc d else true) && y.condition pc d

/-- The triggers `x`, `y` with what is true of each: those for which it is `true`. -/
def chosen (x y : Trigger) (a b : Bool) : List Trigger := (if a then [x] else []) ++ if b then [y] else []

/-- What two triggers do that stand before disabled ones. -/
theorem checkTriggers_pair {s : State} {x y : Trigger} {xs : List Trigger} {d : DataAccess} {mx my : Bool}
    (ht : s.triggers = x :: y :: xs) (hxs : ∀ z ∈ xs, z.disabled = true) (hx : x.condition s.pc d = mx)
    (hy : x.matchAfter y s.pc d = my) :
    let s' := { s with triggers := (if mx then x.setHit else x) :: (if my then y.setHit else y) :: xs }
    checkTriggers s d = (s', fireAction s' (chosen x y (mx && !x.chain) (my && !y.chain))) := by
  subst hx hy
  have chain : matchChain s.pc d true s.triggers =
      x.condition s.pc d :: x.matchAfter y s.pc d :: List.replicate xs.length false := by
    simp only [ht, matchChain, Trigger.matchAfter, Bool.true_and, matchChain_disabled hxs]
  have hits : setHits s.triggers (matchChain s.pc d true s.triggers) =
      (if x.condition s.pc d then x.setHit else x) :: (if x.matchAfter y s.pc d then y.setHit else y) :: xs := by
    rw [chain, ht, setHits_cons, setHits_cons, setHits_none]
  have fires : firing s.triggers (matchChain s.pc d true s.triggers) =
      chosen x y (x.condition s.pc d && !x.chain) (x.matchAfter y s.pc d && !y.chain) := by
    rw [chain, ht, firing_cons, firing_cons, firing_none, chosen]
    split <;> split <;> rfl
  dsimp only
  rw [← hits, ← fires]
  rfl

/-- Two address triggers before disabled ones leave no ICOUNT that counts. -/
theorem icountActive_pair {s : State} {x y : Trigger} {xs : List Trigger} (ht : s.triggers = x :: y :: xs)
    (hxs : ∀ z ∈ xs, z.disabled = true) (hx : x.isMcontrol = true) (hy : y.isMcontrol = true) : icountActive s = none := by
  have tail : icountActive { s with triggers := y :: xs } = none := icountActive_head rfl hxs hy
  unfold icountActive at tail ⊢
  rw [ht, List.find?_cons_of_neg (by simp [isIcount_mcontrol hx])]
  exact tail

/-- The action of an address trigger (R572). -/
theorem toDebug_mcontrol {x : Trigger} (h : x.isMcontrol = true) : x.toDebug = x.tdata1.getLsbD 12 := if_pos h

/-- The breakpoint of a trigger that fires alone is about its TDATA2 (R576). -/
theorem matchedAddress_single (pc : Word) (x : Trigger) : matchedAddress pc x [] = x.tdata2 := by
  unfold matchedAddress
  split
  · next h =>
    simp only [List.any_cons, List.any_nil, Bool.or_false, Bool.and_eq_true, beq_iff_eq] at h
    exact h.2
  · rfl

/-! ## Conditions (R576) -/

section
variable {x : Trigger} (hx : x.isMcontrol = true) (hm : x.mcontrolM = true)
include hx hm

theorem condition_execute {pc : Word} (he : x.execute = true) (hpc : x.tdata2 = pc) (d : DataAccess) :
    x.condition pc d = true := by
  simp only [Trigger.condition, hx, hm, he, hpc, beq_self_eq_true, Bool.and_self, Bool.true_or]

theorem condition_access {d : DataAccess} (pc : Word)
    (hd : (x.load = true ∧ d = .load x.tdata2) ∨ (x.store = true ∧ d = .store x.tdata2)) : x.condition pc d = true := by
  rcases hd with ⟨access, rfl⟩ | ⟨access, rfl⟩ <;>
    simp only [Trigger.condition, Trigger.dataMatch, hx, hm, access, beq_self_eq_true, Bool.and_self, Bool.or_true]

end

theorem condition_elsewhere {x : Trigger} {pc : Word} (load : x.load = false) (store : x.store = false) (hpc : x.tdata2 ≠ pc)
    (d : DataAccess) : x.condition pc d = false := by
  have pcElsewhere : (pc == x.tdata2) = false := beq_eq_false_iff_ne.2 (Ne.symm hpc)
  have noData : x.dataMatch d = false := by cases d <;> simp only [Trigger.dataMatch, load, store, Bool.false_and]
  simp only [Trigger.condition, pcElsewhere, noData, Bool.and_false, Bool.or_self]

/-! ## The step (R413, R577) -/

/-- Where no ICOUNT counts and the hart is not stepped, nothing follows the instruction. -/
theorem runOne_plain {s : State} (hi : icountActive s = none) (noStep : s.stepping = false) : runOne s = runInstr s := by
  unfold runOne
  split
  · next t ht =>
    have inside : leavesPastTop s t = false := by
      simp only [leavesPastTop, icountFires, hi, noStep, Bool.and_false, Bool.or_self]
    have goesOn : afterIcount s t = .next t := by simp only [afterIcount, hi, ite_self]
    rw [inside, goesOn, ht]
    simp only [afterStep_free noStep, Bool.false_eq_true, if_false, ite_self]
  · next f hf => exact hf.symm
  · next r hr => exact hr.symm

theorem State.ReadyButTriggers.step_runOne {s : State} (hs : s.ReadyButTriggers) : step s = tickResult (runOne s) :=
  Machine.step_runOne hs.inputs hs.noReset hs.running hs.noWait hs.inRange hs.noHalt hs.awake
    (pendingInterrupt_none hs.noInterrupt)

/-- The load or store of the instruction at pc. -/
theorem State.Fetchable.upcomingAccess {s : State} (hs : s.Fetchable) {i : Instr} {rest : List Byte}
    (h : decode s.cfg s.fetchBytes = .ok (i, rest)) : upcomingAccess s = dataAccess s i := by
  obtain ⟨w, hw, hi⟩ := hs.fetch h
  simp only [Machine.upcomingAccess, hw, hi]

/-- Triggers that fire act in the place of the instruction, Debug Mode over the breakpoint (R577, D50). -/
theorem State.ReadyButTriggers.fires {s : State} {ts fs : List Trigger} {f : Trigger} (hs : s.ReadyButTriggers)
    (hi : icountActive s = none)
    (h : checkTriggers s (upcomingAccess s) = ({ s with triggers := ts }, fireAction { s with triggers := ts } (f :: fs))) :
    ((f :: fs).any Trigger.toDebug = false → ∃ u : State, step s = .next u.tick ∧
      Traps { s with triggers := ts } u false 3 (if s.cfg.mtvalEbreakAddr then matchedAddress s.pc f fs else 0)) ∧
    ((f :: fs).any Trigger.toDebug = true → ∃ u : State, step s = .next u.tick ∧
      EntersDebug { s with triggers := ts } u 2 s.pc) := by
  have goes {u : State} (hu : fireAction { s with triggers := ts } (f :: fs) = some u) : step s = .next u.tick := by
    obtain ⟨run, -⟩ := runInstr_fires (s := s) (u := u) (by rw [h]; exact hu)
    rw [hs.step_runOne, runOne_plain hi hs.noStep, run]
    rfl
  constructor
  · intro traps
    exact ⟨_, goes (if_neg (by rw [traps]; simp)), takeTrap_traps _ false 3 _⟩
  · intro debug
    exact ⟨_, goes (if_pos debug), enterDebug_enters _ 2 _⟩

/-- Where no trigger fires, the instruction is executed with the hits that are set (R576, R578). -/
theorem State.ReadyButTriggers.executes {s : State} {ts : List Trigger} {i : Instr} {rest : List Byte}
    (hs : s.ReadyButTriggers) (hi : icountActive s = none) (fetchable : s.Fetchable)
    (decoded : decode s.cfg s.fetchBytes = .ok (i, rest))
    (h : checkTriggers s (upcomingAccess s) = ({ s with triggers := ts }, none)) :
    step s = tickResult (exec i { s with triggers := ts }) := by
  obtain ⟨w, hw, hd⟩ := fetchable.fetch decoded
  have run : runInstr s = exec i { s with triggers := ts } := by
    have hw' : Machine.fetch { s with triggers := ts } = .window w := hw
    have hd' : decodeWindow ({ s with triggers := ts } : State).cfg w = .ok i := hd
    simp only [runInstr, h, hw', runWindow, hd']
  rw [hs.step_runOne, runOne_plain hi hs.noStep, run]

/-! ## The statement -/

/-- A trigger that fires alone. -/
theorem State.ReadyButTriggers.fires_alone {s : State} {ts : List Trigger} {x : Trigger} (hs : s.ReadyButTriggers)
    (hi : icountActive s = none) (hx : x.isMcontrol = true)
    (h : checkTriggers s (Machine.upcomingAccess s) =
      ({ s with triggers := ts }, fireAction { s with triggers := ts } [x])) :
    (x.tdata1.getLsbD 12 = false → ∃ u : State, step s = .next u.tick ∧
      Traps { s with triggers := ts } u false 3 (if s.cfg.mtvalEbreakAddr then x.tdata2 else 0)) ∧
    (x.tdata1.getLsbD 12 = true → ∃ u : State, step s = .next u.tick ∧ EntersDebug { s with triggers := ts } u 2 s.pc) := by
  have acts := hs.fires hi h
  rw [matchedAddress_single, List.any_cons, List.any_nil, Bool.or_false, toDebug_mcontrol hx] at acts
  exact acts

/-- Settles O52: one trigger, two that fire at once, and two that are chained, each by what the look at the triggers finds. -/
theorem addressTriggersFire : Obligations.AddressTriggersFire := by
  unfold Obligations.AddressTriggersFire
  intro hit acts
  have hitOf {x : Trigger} (hx : x.isMcontrol = true) : x.setHit = hit x := setHit_mcontrol hx
  refine ⟨fun s x xs ht hx hm hc hxs hs => ?alone, fun s rd rs1 rs2 rdc rs1c imm u5 u6 => ?addresses,
    fun s x y xs i rest ht hxy hxs hs fetchable decoded access he hpc => ?both,
    fun s x y xs ht chained unchained hxy hxs hs => ?chain⟩
  case alone =>
    have fires (hd : x.condition s.pc (upcomingAccess s) = true) : acts s { s with triggers := hit x :: xs } x := by
      have check := checkTriggers_head ht hxs hd hc
      rw [hitOf hx] at check
      exact hs.fires_alone (icountActive_head ht hxs hx) hx check
    refine ⟨fun he hpc => fires (condition_execute hx hm he hpc _), fun i rest fetchable decoded access => fires ?_⟩
    rw [fetchable.upcomingAccess decoded]
    exact condition_access hx hm _ access
  case addresses =>
    refine ⟨?_, ?_, ?_, ?_, ?_, ?_⟩
    · simp only [List.forall_mem_cons]
      exact ⟨rfl, rfl, rfl, rfl, rfl, by simp⟩
    · simp only [List.forall_mem_cons]
      exact ⟨rfl, rfl, rfl, by simp⟩
    · exact congrArg DataAccess.load (s.effAddrC_eq rs1c u5)
    · exact congrArg DataAccess.store (s.effAddrC_eq rs1c u5)
    · exact congrArg DataAccess.load (s.effAddrSp_eq u6)
    · exact congrArg DataAccess.store (s.effAddrSp_eq u6)
  case both =>
    obtain ⟨hx, hmx, hcx⟩ := hxy x (by simp)
    obtain ⟨hy, hmy, hcy⟩ := hxy y (by simp)
    have xFires : x.condition s.pc (upcomingAccess s) = true := by
      rw [fetchable.upcomingAccess decoded]
      exact condition_access hx hmx _ access
    have yFires : x.matchAfter y s.pc (upcomingAccess s) = true := by
      rw [Trigger.matchAfter, condition_execute hy hmy he hpc, hcx]
      rfl
    have check := checkTriggers_pair ht hxs xFires yFires
    rw [hitOf hx, hitOf hy, hcx, hcy] at check
    have address : matchedAddress s.pc x [y] = s.pc := if_pos (by simp [he, hpc])
    have acts := hs.fires (ts := hit x :: hit y :: xs) (f := x) (fs := [y]) (icountActive_pair ht hxs hx hy) check
    rw [address] at acts
    simp only [List.any_cons, List.any_nil, toDebug_mcontrol hx, toDebug_mcontrol hy, Bool.or_false, Bool.or_eq_true,
      Bool.or_eq_false_iff, and_imp] at acts
    exact acts
  case chain =>
    obtain ⟨hx, hmx, hex, hlx, hsx⟩ := hxy x (by simp)
    obtain ⟨hy, hmy, hey, hly, hsy⟩ := hxy y (by simp)
    have noIcount := icountActive_pair ht hxs hx hy
    refine ⟨fun hpx hpy => ?matched, fun i rest fetchable decoded => ⟨fun hpx => ?prevented, fun hpx hpy => ?alone⟩⟩
    case matched =>
      have xMatches := condition_execute hx hmx hex hpx (upcomingAccess s)
      have yMatches : x.matchAfter y s.pc (upcomingAccess s) = true := by
        rw [Trigger.matchAfter, condition_execute hy hmy hey hpy, chained, xMatches]
        rfl
      have check := checkTriggers_pair ht hxs xMatches yMatches
      rw [hitOf hx, hitOf hy, chained, unchained] at check
      exact hs.fires_alone (ts := hit x :: hit y :: xs) noIcount hy check
    case prevented =>
      have xMisses := condition_elsewhere hlx hsx hpx (upcomingAccess s)
      have yMisses : x.matchAfter y s.pc (upcomingAccess s) = false := by
        rw [Trigger.matchAfter, chained, xMisses]
        rfl
      have check := checkTriggers_pair ht hxs xMisses yMisses
      have same : { s with triggers := x :: y :: xs } = s := by rw [← ht]
      have executes := hs.executes (ts := x :: y :: xs) noIcount fetchable decoded check
      rwa [same] at executes
    case alone =>
      have xMatches := condition_execute hx hmx hex hpx (upcomingAccess s)
      have yMisses : x.matchAfter y s.pc (upcomingAccess s) = false := by
        rw [Trigger.matchAfter, condition_elsewhere hly hsy hpy, Bool.and_false]
      have check := checkTriggers_pair ht hxs xMatches yMisses
      rw [hitOf hx, chained] at check
      exact hs.executes noIcount fetchable decoded check

end Sys2Proof.Machine
end

section
/-! The ICOUNT trigger (O53): what an instruction leaves of the configuration, and the step after which the count is up. -/
namespace Sys2Proof.Machine

/-! ## The configuration -/

theorem raise_cfg {s t : State} {e : Exc} {tval : Word} (h : raise s e tval = .next t) : t.cfg = s.cfg := by
  unfold raise at h
  split at h <;> cases h <;> rfl

theorem jumpTo_cfg {s t : State} {rd : Reg} {len : Nat} {target : Word} (h : jumpTo s rd len target = .next t) :
    t.cfg = s.cfg := by
  obtain ⟨-, ⟨-, rfl⟩ | ⟨-, rfl⟩⟩ := jumpTo_cases h
  · rfl
  · simp

theorem writeBack_cfg {s t : State} {rd : Reg} {v : Word} {len : Nat} (h : writeBack s rd v len = .next t) :
    t.cfg = s.cfg := by
  cases h
  simp

theorem loadTo_cfg {s t : State} {rd : Reg} {a : Word} {n len : Nat} {ext : Word → Word}
    (h : loadTo s rd a n ext len = .next t) : t.cfg = s.cfg := by
  unfold loadTo at h
  split at h
  · exact writeBack_cfg h
  · exact raise_cfg h
  · cases h
  · cases h
    rfl

theorem storeTo_cfg {s t : State} {a v : Word} {n len : Nat} (h : storeTo s a n v len = .next t) : t.cfg = s.cfg := by
  unfold storeTo at h
  split at h
  · next written =>
    cases h
    rw [State.retire_cfg, (memWrite_debugFrame written).cfg]
  · exact raise_cfg h
  · cases h
  · cases h
    rfl

theorem breakpoint_cfg {s t : State} (h : breakpoint s = .next t) : t.cfg = s.cfg := by
  unfold breakpoint at h
  split at h
  · cases h
    rfl
  · split at h
    · cases h
      rfl
    · exact raise_cfg h

theorem trapReturn_cfg {s t : State} (h : s.trapReturn = .next t) : t.cfg = s.cfg := by
  unfold State.trapReturn at h
  dsimp only at h
  split at h <;> cases h
  rfl

theorem waitForInterrupt_cfg (s : State) : (waitForInterrupt s).cfg = s.cfg := by
  unfold waitForInterrupt
  split <;> rfl

theorem csrInstr_cfg {s t : State} {instr : Word} {rd : Reg} {a : BitVec 12} {writes plain : Bool} {new : Word → Word}
    (h : csrInstr s instr rd a writes plain new = .next t) : t.cfg = s.cfg := by
  obtain ⟨-, raises⟩ | ⟨-, -, w, written, rfl⟩ := csrInstr_cases h
  · exact raise_cfg raises
  · have counted : (State.countCsr s w a writes).cfg = w.cfg := by
      unfold State.countCsr
      split <;> rfl
    rw [State.advance_cfg, State.setReg_cfg, counted]
    cases writes
    · cases written
      rfl
    · exact (csrWrite_frame written).cfg

/-- No instruction changes the configuration. -/
theorem exec_cfg {i : Instr} {s t : State} (h : exec i s = .next t) : t.cfg = s.cfg := by
  have shape := exec_shape i s
  revert h
  generalize exec i s = r at shape
  intro h
  cases shape with
  | writeBack => exact writeBack_cfg h
  | jump => exact jumpTo_cfg h
  | branch c off len =>
    cases c with
    | false =>
      cases h
      exact State.retire_cfg s len
    | true => exact jumpTo_cfg h
  | load => exact loadTo_cfg h
  | store => exact storeTo_cfg h
  | nop len | fenceI len =>
    cases h
    simp
  | wfi len =>
    cases h
    rw [State.retire_cfg, waitForInterrupt_cfg]
  | exception => exact raise_cfg h
  | breakpoint => exact breakpoint_cfg h
  | trapReturn => exact trapReturn_cfg h
  | csr => exact csrInstr_cfg h
  | refused => cases h

/-! ## ICOUNT last, after address triggers that are disabled (R573, R579) -/

/-- An ICOUNT is no address trigger. -/
theorem isMcontrol_icount {x : Trigger} (h : x.isIcount = true) : x.isMcontrol = false := by
  have htype : x.type = 3 := by simpa only [Trigger.isIcount, beq_iff_eq] using h
  simp only [Trigger.isMcontrol, htype]
  rfl

/-- It matches no instruction by its address. -/
theorem condition_icount {x : Trigger} (h : x.isIcount = true) (pc : Word) (d : DataAccess) : x.condition pc d = false := by
  simp only [Trigger.condition, isMcontrol_icount h, Bool.false_and]

/-- Where no trigger has its condition, none is hit and none fires. -/
theorem checkTriggers_unmatched {s : State} {d : DataAccess} (h : ∀ t ∈ s.triggers, t.condition s.pc d = false) :
    checkTriggers s d = (s, none) := by
  have chain (ts : List Trigger) (hts : ∀ t ∈ ts, t.condition s.pc d = false) (allowed : Bool) :
      matchChain s.pc d allowed ts = List.replicate ts.length false := by
    induction ts generalizing allowed with
    | nil => rfl
    | cons t ts ih =>
      rw [matchChain, hts t List.mem_cons_self, Bool.and_false, ih (fun x hx => hts x (List.mem_cons_of_mem _ hx))]
      rfl
  simp only [checkTriggers, chain _ h, setHits_none, firing_none]
  rfl

section
variable {s : State} {x : Trigger} {xs : List Trigger} (ht : s.triggers = xs ++ [x]) (hx : x.isIcount = true)
  (hxs : ∀ y ∈ xs, y.isMcontrol = true ∧ y.disabled = true)
include ht hx hxs

theorem checkTriggers_icount (d : DataAccess) : checkTriggers s d = (s, none) := by
  refine checkTriggers_unmatched (fun t member => ?_)
  rw [ht, List.mem_append, List.mem_singleton] at member
  rcases member with member | rfl
  · exact condition_disabled (hxs t member).2 s.pc d
  · exact condition_icount hx s.pc d

theorem icountActive_last (hm : x.icountM = true) : icountActive s = some x := by
  have none : xs.find? (fun t => t.isIcount && t.icountM) = .none := by
    rw [List.find?_eq_none]
    intro t member
    simp [isIcount_mcontrol (hxs t member).1]
  rw [icountActive, ht, List.find?_append, none, List.find?_cons_of_pos (by simp [hx, hm])]
  rfl

end

/-- The address triggers stay as they are. -/
theorem map_markFired {s : State} {x : Trigger} {xs : List Trigger} (ht : s.triggers = xs ++ [x])
    (hxs : ∀ y ∈ xs, y.isMcontrol = true ∧ y.disabled = true) (n : Nat) :
    s.triggers.map (markFired n) = xs ++ [markFired n x] := by
  have same : xs.map (markFired n) = xs := by
    conv_rhs => rw [← List.map_id xs]
    refine List.map_congr_left (fun t member => ?_)
    rw [markFired, isIcount_mcontrol (hxs t member).1]
    rfl
  rw [ht, List.map_append, same]
  rfl

/-! ## The bits of a fired ICOUNT (R573) -/

/-- Where the new count lies. -/
theorem getLsbD_count (c : BitVec 14) {k : Nat} (hk : k < 32) :
    (BitVec.ofNat 32 (c.toNat * 1024)).getLsbD k = (decide (10 ≤ k) && c.getLsbD (k - 10)) := by
  rw [BitVec.getLsbD_ofNat, decide_eq_true hk, Bool.true_and, show 1024 = 2 ^ 10 from rfl, Nat.testBit_mul_two_pow]
  rfl

/-- hit is set, and no bit but hit and count changes. -/
theorem markFired_icount {x : Trigger} (hx : x.isIcount = true) (n : Nat) :
    (markFired n x).tdata1.getLsbD 24 = true ∧
    (markFired n x).tdata1 &&& ~~~0x01FFFC00 = x.tdata1 &&& ~~~0x01FFFC00 ∧ (markFired n x).tdata2 = x.tdata2 := by
  have kept : ∀ k < 32, (0xFF0003FF : Word).getLsbD k = !(decide (10 ≤ k) && decide (k < 24)) := by decide
  have hit : ∀ k < 32, (0x01000000 : Word).getLsbD k = decide (k = 24) := by decide
  have fields : ∀ k < 32, (0x01FFFC00 : Word).getLsbD k = (decide (10 ≤ k) && decide (k < 25)) := by decide
  rw [markFired, if_pos hx]
  refine ⟨?_, ?_, rfl⟩
  · rw [BitVec.getLsbD_or, BitVec.getLsbD_or, hit 24 (by decide), decide_eq_true rfl, Bool.or_true, Bool.true_or]
  · apply BitVec.eq_of_getLsbD_eq
    intro k hk
    simp only [BitVec.getLsbD_and, BitVec.getLsbD_or, BitVec.getLsbD_not, kept k hk, hit k hk, fields k hk,
      getLsbD_count _ hk]
    by_cases low : k < 10
    · simp [hk, show ¬ 10 ≤ k by omega, show k ≠ 24 by omega]
    · by_cases high : k < 25
      · simp [show 10 ≤ k by omega, high]
      · simp [high, show ¬ k < 24 by omega, show k ≠ 24 by omega,
          BitVec.getLsbD_of_ge _ (k - 10) (show 14 ≤ k - 10 by omega)]

/-! ## The step (R579) -/

/-- An ICOUNT of count 1 that has not fired acts after the instruction (R579). -/
theorem icountStep_acts {x : Trigger} {s : State} (hx : x.isIcount = true) (count : x.tdata1.extractLsb' 10 14 = 1#14)
    (fresh : x.fired = false) :
    let s' := { s with triggers := s.triggers.map (markFired s.freeCtr) }
    icountStep x s =
      if x.tdata1.getLsbD 0 then .next (s'.enterDebug causeTrigger s'.pc) else .next (triggerTrap s' s'.pc) := by
  have one : x.count = 1 := by
    rw [Trigger.count, count]
    rfl
  have action : x.toDebug = x.tdata1.getLsbD 0 := if_neg (by rw [isMcontrol_icount hx]; simp)
  rw [icountStep, fresh, one, action]
  rfl

/-- Settles O53: the instruction runs as without triggers, and the one that counts it acts. -/
theorem icountFiresAfterInstruction : Obligations.IcountFires := by
  intro s t x xs i rest ht hx hm count fresh hxs hs fetchable decoded executed same running noWait
  obtain ⟨w, hw, hi⟩ := fetchable.fetch decoded
  have run : runInstr s = .next t := by
    simp only [runInstr, checkTriggers_icount ht hx hxs, hw, runWindow, hi, executed]
  have active := icountActive_last ht hx hxs hm
  refine ⟨fun pastTop => ?pastTop, fun inside => ?acts⟩
  case pastTop =>
    have fires : icountFires s t = true := by simp only [icountFires, running, active, fresh, Bool.not_false, Bool.and_self]
    rw [hs.step_runOne, runOne_icount_pastTop run noWait pastTop fires]
    rfl
  case acts =>
    obtain ⟨hit, others, tdata2⟩ := markFired_icount hx t.freeCtr
    have triggers : t.triggers.map (markFired t.freeCtr) = xs ++ [markFired t.freeCtr x] := by
      rw [same, map_markFired ht hxs]
    have counts : afterIcount s t = icountStep x t := by
      simp only [afterIcount, running, active, Bool.false_eq_true, if_false]
    have acts := counts.trans (icountStep_acts (s := t) hx count fresh)
    dsimp only at acts
    rw [triggers] at acts
    have goes {u : State} (hu : afterIcount s t = .next u) : step s = .next u.tick := by
      rw [hs.step_runOne]
      simp only [runOne, run, noWait, leavesPastTop_inside inside, hu, afterStep_free hs.noStep, Bool.false_eq_true, if_false]
      rfl
    cases action : x.tdata1.getLsbD 0 with
    | false =>
      rw [action] at acts
      refine ⟨_, _, goes acts, hit, others, tdata2, fun _ => ?_, fun debug => absurd debug (by simp)⟩
      have traps := takeTrap_traps { t with triggers := xs ++ [markFired t.freeCtr x] } false 3
        (triggerTval { t with triggers := xs ++ [markFired t.freeCtr x] } t.pc)
      rw [← exec_cfg executed]
      exact traps
    | true =>
      rw [action] at acts
      exact ⟨_, _, goes acts, hit, others, tdata2, fun traps => absurd traps (by simp), fun _ => enterDebug_enters _ 2 _⟩

end Sys2Proof.Machine
end

section
/-! Access faults of loads and stores, and accesses that are never answered: the statement on them (O15). -/
namespace Sys2Proof.Machine

/-! ## The access that is answered with a fault (R110, R111) -/

/-- An aligned access that is answered with an access fault: the responder's error, or a byte or halfword of the timer
block (R50, R106). -/
def FaultAt (s : State) (store : Bool) (a : Word) (n : Nat) : Prop :=
  ErrorAt s store a n ∨ (inTimer s.cfg a = true ∧ n ≠ 4 ∧ a.toNat % n = 0)

section
variable {s : State} {a : Word} {n : Nat}

theorem memRead_fault (h : FaultAt s false a n) : memRead s a n = .exn .loadFault a := by
  rcases h with ⟨aligned, ram, outside, answered, error⟩ | ⟨timer, narrow, aligned⟩
  · simp only [memRead, aligned, ram, outside, answered, error]
    rfl
  · rw [memRead, if_neg (not_not_intro aligned), if_pos timer, if_pos narrow]

theorem memWrite_fault (h : FaultAt s true a n) (v : Word) : memWrite s a n v = .exn .storeFault a := by
  rcases h with ⟨aligned, ram, outside, answered, error⟩ | ⟨timer, narrow, aligned⟩
  · simp only [memWrite, aligned, ram, outside, answered, error]
    rfl
  · rw [memWrite, if_neg (not_not_intro aligned), if_pos timer, if_pos narrow]

/-- The load takes the trap of its fault (R250, R423). -/
theorem loadTo_fault (running : s.debugMode = false) (h : FaultAt s false a n) (rd : Reg) (ext : Word → Word) (len : Nat) :
    ∃ t, loadTo s rd a n ext len = .next t ∧ Traps s t false 5 a := by
  rw [loadTo, memRead_fault h]
  exact raise_traps running .loadFault a

/-- So does the store. -/
theorem storeTo_fault (running : s.debugMode = false) (h : FaultAt s true a n) (v : Word) (len : Nat) :
    ∃ t, storeTo s a n v len = .next t ∧ Traps s t false 7 a := by
  rw [storeTo, memWrite_fault h]
  exact raise_traps running .storeFault a

end

/-! ## The statement -/

/-- Settles O15: what one load and one store operation answer holds of every form, at its own address and width. -/
theorem accessFaults : Obligations.AccessFaults := by
  intro s rd rs1 rs2 rdc rs1c imm u5 u6 a ac asp each
  have everyForm (when_ : Bool → Word → Nat → Prop) (then_ : Instr → BitVec 4 → Word → Prop)
      (loads : ∀ {i r b n ext len}, exec i s = loadTo s r b n ext len → when_ false b n → then_ i 5 b)
      (stores : ∀ {i b n v len}, exec i s = storeTo s b n v len → when_ true b n → then_ i 7 b) : each when_ then_ := by
    have load_ac : exec (.cLw rdc rs1c u5) s = loadTo s (regC rdc) ac 4 noExt 2 :=
      congrArg (loadTo s (regC rdc) · 4 noExt 2) (s.effAddrC_eq rs1c u5)
    have store_ac : exec (.cSw rs1c rdc u5) s = storeTo s ac 4 (s.getReg (regC rdc)) 2 :=
      congrArg (storeTo s · 4 (s.getReg (regC rdc)) 2) (s.effAddrC_eq rs1c u5)
    have load_asp : exec (.cLwsp rd u6) s = loadTo s rd asp 4 noExt 2 :=
      congrArg (loadTo s rd · 4 noExt 2) (s.effAddrSp_eq u6)
    have store_asp : exec (.cSwsp rs2 u6) s = storeTo s asp 4 (s.getReg rs2) 2 :=
      congrArg (storeTo s · 4 (s.getReg rs2) 2) (s.effAddrSp_eq u6)
    exact ⟨fun h => ⟨loads rfl h, loads rfl h⟩, fun h => ⟨loads rfl h, loads rfl h⟩, loads rfl, stores rfl, stores rfl,
      stores rfl, loads load_ac, stores store_ac, loads load_asp, stores store_asp⟩
  refine ⟨fun running => everyForm (FaultAt s) (fun i code b => ∃ t, exec i s = .next t ∧ Traps s t false code b)
      (fun hi fault => ?loadFault) (fun hi fault => ?storeFault),
    everyForm (HangAt s) (fun i _ _ => exec i s = .next s.wait) (fun hi silent => ?loadHangs)
      (fun hi silent => ?storeHangs)⟩
  case loadFault =>
    rw [hi]
    exact loadTo_fault running fault ..
  case storeFault =>
    rw [hi]
    exact storeTo_fault running fault ..
  case loadHangs => exact hi.trans (loadTo_hang silent ..)
  case storeHangs => exact hi.trans (storeTo_hang silent ..)

end Sys2Proof.Machine
end

section
/-! The hart while it does not execute, and the end of a sleep: the statement on them (O21). -/
namespace Sys2Proof.Machine

/-! ## The boundary of a hart that does not execute (R413, R530, R614) -/

/-- A halted hart, and one that waits on the bus, does nothing. -/
theorem hartStep_halted_or_waiting {s : State} (h : s.debugMode = true ∨ s.waiting = true) : hartStep s = .next s := by
  rw [hartStep, if_pos]
  rcases h with h | h <;> simp [h]

/-- A running hart with no halt request and no interrupt to take executes the instruction at pc, unless it goes on sleeping
(R274, R452). -/
theorem hartStep_uninterrupted {s : State} (noReset : s.coreReset = false) (running : s.debugMode = false)
    (noWait : s.waiting = false) (inRange : s.seqWrap = false) (noHalt : s.dm.haltreq = false)
    (noInterrupt : pendingInterrupt s = none) :
    hartStep s = if s.sleeping && !s.wakes then .next s else runOne { s with sleeping := false } := by
  rw [hartStep, if_neg (by simp [noReset, running, noWait]), if_neg (by simp [inRange]), if_neg (by simp [haltsNow, noHalt]),
    noInterrupt]

theorem step_hartStep {s : State} (inputs : s.inputs = []) : step s = tickResult (hartStep s) := by
  rw [step, inputs]

/-! ## The end of a sleep (R274, R452) -/

/-- A step that goes on ends with the clock. -/
theorem tickResult_next {r : Result} {t : State} (h : tickResult r = .next t) : ∃ u : State, t = u.tick := by
  cases r with
  | next u => cases h; exact ⟨u, rfl⟩
  | fault | refused => cases h

theorem step_ends_with_tick {s t : State} (h : step s = .next t) : ∃ u : State, t = u.tick := by
  unfold step at h
  split at h <;> exact tickResult_next h

/-- The sources of a reset do not move with time. -/
theorem State.tick_coreReset (s : State) : s.tick.coreReset = s.coreReset :=
  coreReset_congr s.tick_pins s.tick_scu (congrArg Dm.ndmreset s.tick_dm)

theorem State.wakeUp_awake {s : State} (wakes : s.wakes = true) : s.wakeUp.sleeping = false := by
  simp only [State.wakeUp, wakes, Bool.not_true, Bool.and_false, Bool.false_and]

/-- Outside a reset no hart is asleep, once the clock has moved, with an enabled interrupt pending. -/
theorem State.tick_awake {s : State} (noReset : s.coreReset = false) (wakes : s.tick.wakes = true) :
    s.tick.sleeping = false := by
  rw [State.tick, if_neg (by simp [noReset])] at wakes ⊢
  exact State.wakeUp_awake wakes

/-! ## The statement -/

/-- Settles O21: the boundary of a hart that does not execute, and the clock, which ends every step and every sleep with an
enabled interrupt pending. -/
theorem waitingHartOnlyLetsTimePass : Obligations.WaitingHartOnlyLetsTimePass := by
  refine ⟨fun s inputs => ⟨fun idle => ?idle, fun noReset running noWait inRange noHalt asleep =>
    ⟨fun quiet => ?asleep, fun wakes masked => ?wakes⟩⟩, fun s t stepped noReset wakes => ?awake⟩
  case idle => rw [step_hartStep inputs, hartStep_halted_or_waiting idle, tickResult]
  case asleep =>
    rw [step_hartStep inputs, hartStep_uninterrupted noReset running noWait inRange noHalt (pendingInterrupt_none (.inr quiet)),
      if_pos (by simp [asleep, quiet]), tickResult]
  case wakes =>
    have awake : step { s with sleeping := false } = tickResult (runOne { s with sleeping := false }) :=
      step_runOne inputs noReset running noWait inRange noHalt rfl (pendingInterrupt_none (.inl masked))
    rw [awake, step_hartStep inputs,
      hartStep_uninterrupted noReset running noWait inRange noHalt (pendingInterrupt_none (.inl masked)),
      if_neg (by simp [wakes])]
  case awake =>
    obtain ⟨u, rfl⟩ := step_ends_with_tick stepped
    exact State.tick_awake (u.tick_coreReset.symm.trans noReset) wakes

end Sys2Proof.Machine
end

section
/-! A fetch that gives no instruction to execute: bytes that do not decode, and words that the instruction memory answers with
an error or not at all; the statement on them (O35). -/
namespace Sys2Proof

/-! ## The bits of the instruction (R101, R140) -/

theorem half_eq_append (b0 b1 : Byte) : half b0 b1 = b1 ++ b0 := by
  apply BitVec.eq_of_toNat_eq
  rw [half, BitVec.toNat_ofNat, Machine.toNat_append_byte]
  omega

theorem word4_eq_append (b0 b1 b2 b3 : Byte) : word4 b0 b1 b2 b3 = b3 ++ b2 ++ b1 ++ b0 := by
  apply BitVec.eq_of_toNat_eq
  simp only [word4, BitVec.toNat_ofNat, Machine.toNat_append_byte]
  omega

/-- The first byte tells whether an instruction is short. -/
theorem isShort_half_iff (cfg : Config) (b0 b1 : Byte) :
    isShort cfg (half b0 b1) = true ↔ cfg.rvc = true ∧ b0.extractLsb' 0 2 ≠ 3#2 := by
  have low : (half b0 b1).extractLsb' 0 2 = b0.extractLsb' 0 2 := by
    apply BitVec.eq_of_toNat_eq
    simp only [half_eq_append, toNat_extract, Machine.toNat_append_byte]
    omega
  rw [isShort, low, Bool.and_eq_true, bne_iff_ne, ne_eq, ne_eq, ← BitVec.toNat_inj]
  rfl

/-- Four bytes that decode to no instruction are a short window that does not decode, or a long one. -/
theorem decode_four_error {cfg : Config} {b0 b1 b2 b3 : Byte} {e : DecodeError}
    (h : decode cfg [b0, b1, b2, b3] = .error e) :
    (isShort cfg (half b0 b1) = true ∧ decodeWindow cfg (word4 b0 b1 0 0) = .error e) ∨
    (isShort cfg (half b0 b1) = false ∧ decodeWindow cfg (word4 b0 b1 b2 b3) = .error e) := by
  rw [decode] at h
  split at h
  · next short =>
    cases window : decodeWindow cfg (word4 b0 b1 0 0) <;> rw [window] at h <;> cases h
    exact .inl ⟨short, rfl⟩
  · next long =>
    cases window : decodeWindow cfg (word4 b0 b1 b2 b3) <;> rw [window] at h <;> cases h
    exact .inr ⟨Bool.eq_false_iff.2 long, rfl⟩

end Sys2Proof

namespace Sys2Proof.Machine

/-! ## What the fetch answers (R113) -/

theorem fetchHalf_fresh {s : State} (fresh : s.stale = []) (a : Word) :
    fetchHalf s a = half (s.byteAt a) (s.byteAt (a + 1)) := by
  rw [fetchHalf, fetchByte_fresh fresh, fetchByte_fresh fresh]

theorem fetch_error {s : State} (h : fetchStatus s.cfg s.pc = .error) : fetch s = .error s.pc := by rw [fetch, h]

theorem fetch_stuck {s : State} (h : fetchStatus s.cfg s.pc = .stuck) : fetch s = .stuck := by rw [fetch, h]

/-- The fetch of a short instruction answers its halfword. -/
theorem fetch_short {s : State} (first : fetchStatus s.cfg s.pc = .ok) (short : isShort s.cfg (fetchHalf s s.pc) = true) :
    fetch s = .window ((fetchHalf s s.pc).setWidth 32) := by
  rw [fetch, first]
  exact if_pos short

section
variable {s : State} (first : fetchStatus s.cfg s.pc = .ok) (long : isShort s.cfg (fetchHalf s s.pc) = false)
include first long

/-- The fetch of an instruction of 32 bits answers both halfwords, where both its words are answered. -/
theorem fetch_long (top : s.pc ≠ 0xFFFFFFFE) (second : fetchStatus s.cfg (s.pc + 2) = .ok) :
    fetch s = .window (BitVec.ofNat 32 ((fetchHalf s s.pc).toNat + 65536 * (fetchHalf s (s.pc + 2)).toNat)) := by
  simp only [fetch, first, second, long, if_neg top, Bool.false_eq_true, if_false, ite_self]

variable (straddles : s.pc.getLsbD 1 = true)
include straddles

/-- At the last halfword of the space it has no second word (D11). -/
theorem fetch_pastTop (top : s.pc = 0xFFFFFFFE) : fetch s = .refused .pcPastTop := by
  simp only [fetch, first, long, straddles, if_pos top, Bool.not_true, Bool.false_eq_true, if_false]

theorem fetch_second_error (top : s.pc ≠ 0xFFFFFFFE) (second : fetchStatus s.cfg (s.pc + 2) = .error) :
    fetch s = .error (if s.cfg.mtvalStraddlePlus2 then s.pc + 2 else s.pc) := by
  simp only [fetch, first, second, long, straddles, if_neg top, Bool.not_true, Bool.false_eq_true, if_false]

theorem fetch_second_stuck (top : s.pc ≠ 0xFFFFFFFE) (second : fetchStatus s.cfg (s.pc + 2) = .stuck) :
    fetch s = .stuck := by
  simp only [fetch, first, second, long, straddles, if_neg top, Bool.not_true, Bool.false_eq_true, if_false]

end

/-- The bytes at pc hold a short instruction. -/
def State.ShortAtPc (s : State) : Prop := s.cfg.rvc = true ∧ (s.byteAt s.pc).extractLsb' 0 2 ≠ 3#2

theorem State.shortAtPc_iff {s : State} (fresh : s.stale = []) :
    isShort s.cfg (fetchHalf s s.pc) = true ↔ s.ShortAtPc := by
  rw [fetchHalf_fresh fresh, isShort_half_iff, State.ShortAtPc]

theorem State.not_shortAtPc_iff {s : State} (fresh : s.stale = []) :
    isShort s.cfg (fetchHalf s s.pc) = false ↔ ¬ s.ShortAtPc := by
  rw [← State.shortAtPc_iff fresh, Bool.not_eq_true]

/-- The window of bytes that do not decode, and the bits of it that are the faulting instruction (R163, R423, D25). -/
theorem State.Fetchable.fetch_undecoded {s : State} (hs : s.Fetchable) {e : DecodeError}
    (h : decode s.cfg s.fetchBytes = .error e) : ∃ w, Machine.fetch s = .window w ∧ decodeWindow s.cfg w = .error e ∧
      (s.ShortAtPc → illegalBits s.cfg w = (s.halfAt s.pc).setWidth 32) ∧
      (¬ s.ShortAtPc → illegalBits s.cfg w = s.wordAt s.pc) := by
  have low := fetchHalf_fresh hs.fresh s.pc
  have next : s.pc + 2 + 1 = s.pc + 3 := by rw [BitVec.add_assoc]; rfl
  obtain ⟨short, undecoded⟩ | ⟨long, undecoded⟩ := decode_four_error h
  · have isShortAt := short
    rw [← low, State.shortAtPc_iff hs.fresh] at isShortAt
    refine ⟨_, by rw [fetch_short hs.first (low ▸ short), low, half_setWidth], undecoded, fun _ => ?_,
      fun longAt => absurd isShortAt longAt⟩
    rw [illegalBits, word4_low, if_pos short, half_eq_append, State.halfAt]
  · have isLongAt := long
    rw [← low, State.not_shortAtPc_iff hs.fresh] at isLongAt
    refine ⟨_, by rw [fetch_long hs.first (low ▸ long) hs.top hs.second, low, fetchHalf_fresh hs.fresh, next, halves_word],
      undecoded, fun shortAt => absurd shortAt isLongAt, fun _ => ?_⟩
    rw [illegalBits, word4_low, long, word4_eq_append, State.wordAt]
    rfl

/-! ## The step in which nothing is executed (R411, R413) -/

/-- With no trigger enabled, what an instruction makes of the fetch is what the step of a ready hart makes of it. -/
theorem State.Ready.step_runInstr {s : State} (hs : s.Ready) : step s = tickResult (runInstr s) := by
  rw [hs.toReadyButTriggers.step_runOne, runOne_alone hs.noTrigger hs.noStep]

section
variable {s : State} (hs : s.Ready)
include hs

theorem State.Ready.step_undecoded {w : Word} {e : DecodeError} (hw : Machine.fetch s = .window w)
    (hd : decodeWindow s.cfg w = .error e) :
    ∃ u : State, step s = .next u.tick ∧ Traps s u false 2 (illegalBits s.cfg w) := by
  obtain ⟨u, raised, traps⟩ := raise_traps hs.running .illegal (illegalBits s.cfg w)
  refine ⟨u, ?_, traps⟩
  simp only [hs.step_runInstr, runInstr, checkTriggers_disabled hs.noTrigger, hw, runWindow, hd, raised, tickResult]

theorem State.Ready.step_fetch_error {tval : Word} (h : Machine.fetch s = .error tval) :
    ∃ u : State, step s = .next u.tick ∧ Traps s u false 1 tval := by
  obtain ⟨u, raised, traps⟩ := raise_traps hs.running .instrFault tval
  refine ⟨u, ?_, traps⟩
  simp only [hs.step_runInstr, runInstr, checkTriggers_disabled hs.noTrigger, h, raised, tickResult]

theorem State.Ready.step_fetch_stuck (h : Machine.fetch s = .stuck) : step s = .next s.wait.tick := by
  simp only [hs.step_runInstr, runInstr, checkTriggers_disabled hs.noTrigger, h, tickResult]

theorem State.Ready.step_fetch_refused {r : Refusal} (h : Machine.fetch s = .refused r) : step s = .refused r := by
  simp only [hs.step_runInstr, runInstr, checkTriggers_disabled hs.noTrigger, h, tickResult]

end

/-! ## The statement -/

/-- Settles O35: what the fetch answers in each case, and what the step of a ready hart makes of that answer. -/
theorem unexecutableWordTraps : Obligations.UnexecutableWordTraps := by
  intro s ready
  refine ⟨fun e fetchable undecoded => ?undecoded, fun error => ready.step_fetch_error (fetch_error error),
    fun silent => ready.step_fetch_stuck (fetch_stuck silent), fun straddles fresh first notShort => ?straddling⟩
  case undecoded =>
    obtain ⟨w, window, noInstr, short, long⟩ := fetchable.fetch_undecoded undecoded
    obtain ⟨u, stepped, traps⟩ := ready.step_undecoded window noInstr
    refine ⟨u, stepped, ?_⟩
    split
    · next isShort => exact short isShort ▸ traps
    · next isLong => exact long isLong ▸ traps
  case straddling =>
    have long := (State.not_shortAtPc_iff fresh).2 notShort
    exact ⟨fun top => ready.step_fetch_refused (fetch_pastTop first long straddles top),
      fun inside error => ready.step_fetch_error (fetch_second_error first long straddles inside error),
      fun inside silent => ready.step_fetch_stuck (fetch_second_stuck first long straddles inside silent)⟩

end Sys2Proof.Machine
end

section
/-! The reset pins of the core: a Core Reset that reaches neither the Debug Module nor the SCU's control, unit by unit, and the
statement on the pins that raise one (O44). -/
namespace Sys2Proof.Machine

/-! ## The units (R60, R650, R651) -/

/-- The hart, the timer and the IPIC of a state with the configuration and the memory of `s` take the reset values of `s`. -/
theorem resetHart_hartReset {s u : State} (cfg : u.cfg = s.cfg) (mem : u.mem = s.mem) :
    HartReset s u.resetHart.clearHavereset := by
  constructor
  case regs => exact fun on => State.getReg_reset rfl (cfg ▸ on)
  case pc | csr | ipic => rw [← cfg]; rfl
  case mem => exact mem
  case cfg => exact cfg
  all_goals rfl

/-- The hart stands apart from its debug units, and from the number of the step. -/
theorem HartReset.resetHdu {s t : State} (h : HartReset s t) : HartReset s t.resetHdu :=
  ⟨h.pc, h.seqWrap, h.regs, h.csr, h.mtime, h.mtimecmp, h.timerCtrl, h.timerDiv, h.ipic, h.sleeping, h.debugMode, h.waiting,
    h.stale, h.mem, h.cfg⟩

theorem HartReset.counted {s t : State} (h : HartReset s t) (n : Nat) : HartReset s { t with freeCtr := n } :=
  ⟨h.pc, h.seqWrap, h.regs, h.csr, h.mtime, h.mtimecmp, h.timerCtrl, h.timerDiv, h.ipic, h.sleeping, h.debugMode, h.waiting,
    h.stale, h.mem, h.cfg⟩

/-- The SCU and the TAPC once the resets have acted, Power-Up Reset apart: the sticky bits collect them, and a TAP Reset resets
the TAPC (R512, R515, R650). -/
def State.settleDebugPort (s : State) : State :=
  { s with
    scu := { s.scu with sticky := s.scu.sticky ||| s.scuStatus }
    tap := if s.tapReset then Tap.reset else s.tap }

/-! ## The resets that act together (R511, R513, R650) -/

section
variable {s : State} (core : s.coreReset = true) (noPower : s.pins.pwrup = false) (noDm : s.scu.control.getLsbD 0 = false)
include core noPower noDm

/-- A Core Reset without one of the Debug Module resets the hart, and its debug units where MODE does not keep them. -/
theorem applyResets_core_eq : s.applyResets =
    if s.scu.mode.getLsbD 1 then s.settleDebugPort.resetHart.clearHavereset
    else s.settleDebugPort.resetHart.clearHavereset.resetHdu := by
  have scu : s.settleScu = { s with scu := { s.scu with sticky := s.scu.sticky ||| s.scuStatus } } := by
    rw [State.settleScu, if_neg (by simp [noPower])]
  have port : (if s.settleScu.tapReset then { s.settleScu with tap := Tap.reset } else s.settleScu) = s.settleDebugPort := by
    have tap : s.settleScu.tapReset = s.tapReset := tapReset_congr (by rw [scu])
    rw [tap, scu, State.settleDebugPort]
    split <;> rfl
  have dm : s.settleDebugPort.dmReset = false := by
    show (s.pins.pwrup || (s.scu.control.getLsbD 0 && s.scu.mode.getLsbD 0)) = false
    rw [noPower, noDm]
    rfl
  have hdu : s.hduReset = !s.scu.mode.getLsbD 1 := by
    rw [State.hduReset, noPower, core, Bool.false_or, Bool.true_and]
  simp only [State.applyResets, port, dm, core, hdu, Bool.false_eq_true, if_false, if_true]
  cases s.scu.mode.getLsbD 1 <;> rfl

/-- It does not end itself. -/
theorem applyResets_coreReset : s.applyResets.coreReset = true := by
  rw [applyResets_core_eq core noPower noDm]
  split <;> exact core

/-- So the hart does not leave it, and time stands still (R543, R650). -/
theorem settle_tick_core (before : State) :
    (State.settle before s).tick = { s.applyResets with freeCtr := s.applyResets.freeCtr + 1 } := by
  have held := applyResets_coreReset core noPower noDm
  rw [State.settle, if_neg (by simp [held]), State.tick_held held]

end

/-! ## The pins (R642, R643) -/

/-- The machine with a reset pin asserted, before the reset acts. -/
def State.assertPin (s : State) (pin : ResetPin) (rest : List HostEvent) : State :=
  { s with pins := setResetPin s.pins pin true, inputs := rest }

/-- A reset pin of the core asserts the Core Reset, and is not the one of Power-Up Reset. -/
theorem State.assertPin_core (s : State) {pin : ResetPin} (h : pin = .rst ∨ pin = .cpu) (rest : List HostEvent) :
    (s.assertPin pin rest).coreReset = true ∧ (s.assertPin pin rest).pins.pwrup = s.pins.pwrup := by
  rcases h with rfl | rfl <;> simp [State.assertPin, setResetPin, State.coreReset, State.sysReset]

/-- Settles O44: the pin raises a Core Reset, which acts on the state that the event found but for the pin. -/
theorem coreResetEvent : Obligations.CoreResetEvent := by
  intro s rest pin h isCore noPower noScu
  obtain ⟨core, power⟩ := s.assertPin_core isCore rest
  have noPower' : (s.assertPin pin rest).pins.pwrup = false := power.trans noPower
  have noDm : (s.assertPin pin rest).scu.control.getLsbD 0 = false := by rw [State.assertPin, noScu]; rfl
  have hart : HartReset s (s.assertPin pin rest).settleDebugPort.resetHart.clearHavereset := resetHart_hartReset rfl rfl
  have goes := settle_tick_core core noPower' noDm { s with inputs := rest }
  refine ⟨_, (step_event h (by simp)).trans (congrArg Host.Outcome.next goes), ?_⟩
  rw [applyResets_core_eq core noPower' noDm]
  split
  · next kept =>
    exact ⟨hart.counted _, rfl, Bool.true_and _, rfl, rfl, rfl, fun _ => ⟨⟨rfl, rfl, rfl, rfl⟩, rfl⟩,
      fun reset => absurd kept (Bool.eq_false_iff.1 reset)⟩
  · next reset =>
    exact ⟨hart.resetHdu.counted _, rfl, Bool.true_and _, rfl, rfl, rfl, fun kept => absurd kept reset,
      fun _ => ⟨rfl, rfl, resetAll_tdata1 s.cfg, rfl⟩⟩

end Sys2Proof.Machine
end

section
/-! The resets that reach further than the core: Power-Up Reset, which reaches every unit, the resets that CONTROL asserts, which
MODE steers, and the statement on both (O45). -/
namespace Sys2Proof.Machine

/-! ## The resets by what they reach (R511 to R513, R650) -/

/-- Power-Up Reset reaches every unit; havereset, which the hart's reset sets, falls with dmactive (R522, R531; log 22). -/
theorem applyResets_powerUp {s : State} (power : s.pins.pwrup = true) : s.applyResets =
    ({ s with scu := Scu.reset, tap := Tap.reset, dm := Dm.reset } : State).resetHart.clearHavereset.resetHdu := by
  have scu : s.settleScu = { s with scu := Scu.reset } := by rw [State.settleScu, if_pos power]
  simp only [State.applyResets, scu, State.tapReset, State.dmReset, State.coreReset, State.sysReset, State.hduReset, power,
    Bool.true_or, if_true]

/-- The debugger's side once the resets have acted, Power-Up Reset apart: the SCU and the TAPC as they settle, the Debug Module
reset where its own reset is asserted (R513, R650). -/
def State.settleDebugger (s : State) : State :=
  { s.settleDebugPort with dm := if s.dmReset then Dm.reset else s.dm }

/-- It is the debug port, and then the Debug Module, whose reset the settling of the port does not touch. -/
theorem State.settleDebugger_eq (s : State) :
    (if s.settleDebugPort.dmReset then { s.settleDebugPort with dm := Dm.reset } else s.settleDebugPort) =
      s.settleDebugger := by
  have reset : s.settleDebugPort.dmReset = s.dmReset := rfl
  rw [reset, State.settleDebugger]
  split <;> rfl

section
variable {s : State} (core : s.coreReset = true) (noPower : s.pins.pwrup = false)
include noPower

/-- Below Power-Up Reset only the SCU resets the Debug Module (R513). -/
theorem dmReset_control : s.dmReset = (s.scu.control.getLsbD 0 && s.scu.mode.getLsbD 0) := by
  rw [State.dmReset, noPower, Bool.false_or]

/-- The debug port is the SCU, and then the TAPC. -/
theorem settleDebugPort_eq :
    (if s.settleScu.tapReset then { s.settleScu with tap := Tap.reset } else s.settleScu) = s.settleDebugPort := by
  have tap : s.settleScu.tapReset = s.tapReset := tapReset_congr s.settleScu_pins
  rw [tap, State.settleScu, if_neg (Bool.eq_false_iff.1 noPower), State.settleDebugPort]
  split <;> rfl

/-- CONTROL and MODE stand as the SCU's operations leave them (R512, R513). -/
theorem applyResets_control_mode :
    s.applyResets.scu.control = s.scu.control ∧ s.applyResets.scu.mode = s.scu.mode := by
  rw [applyResets_scu noPower]
  exact ⟨rfl, rfl⟩

include core

/-- Below Power-Up Reset MODE.hdu_rst_bhv alone decides whether the debug units of the hart go with it (R513). -/
theorem hduReset_mode : s.hduReset = !s.scu.mode.getLsbD 1 := by
  rw [State.hduReset, noPower, core, Bool.false_or, Bool.true_and]

/-- A Core Reset below Power-Up Reset, with one of the Debug Module or without. -/
theorem applyResets_settleDebugger : s.applyResets =
    if s.scu.mode.getLsbD 1 then s.settleDebugger.resetHart.clearHavereset
    else s.settleDebugger.resetHart.clearHavereset.resetHdu := by
  simp only [State.applyResets, settleDebugPort_eq noPower, s.settleDebugger_eq, core, hduReset_mode core noPower, if_true]
  cases s.scu.mode.getLsbD 1 <;> rfl

/-! ## The units after a Core Reset (R531, R650) -/

/-- The hart of a state with the configuration and the memory of `b`. -/
theorem applyResets_hartReset {b : State} (cfg : s.cfg = b.cfg) (mem : s.mem = b.mem) : HartReset b s.applyResets := by
  have hart : HartReset b s.settleDebugger.resetHart.clearHavereset := resetHart_hartReset cfg mem
  rw [applyResets_settleDebugger core noPower]
  split
  · exact hart
  · exact hart.resetHdu

theorem applyResets_inputs : s.applyResets.inputs = s.inputs := by
  rw [applyResets_settleDebugger core noPower]
  split <;> rfl

theorem applyResets_tap (noTap : s.pins.trst = false) : s.applyResets.tap = s.tap := by
  have held : s.tapReset = false := by rw [State.tapReset, noPower, noTap]; rfl
  have tap : s.settleDebugger.tap = s.tap := if_neg (Bool.eq_false_iff.1 held)
  rw [applyResets_settleDebugger core noPower]
  split <;> exact tap

/-- A Debug Module that is reset does not show havereset, its dmactive being low (R522; log 22). -/
theorem applyResets_dm_reset (dmReset : s.dmReset = true) : s.applyResets.dm = Dm.reset := by
  have dm : s.settleDebugger.dm = Dm.reset := if_pos dmReset
  rw [applyResets_settleDebugger core noPower]
  split
  · rw [State.clearHavereset, State.resetHart, dm]; rfl
  · rw [State.resetHdu, State.clearHavereset, State.resetHart, dm]; rfl

/-- One that is not reset keeps its registers, but for havereset, and for DATA0, which is DSCRATCH0's cell (R531; log 16). -/
theorem applyResets_dm_kept (noDm : s.dmReset = false) : s.applyResets.dm.havereset = s.dm.dmactive ∧
    { s.applyResets.dm with havereset := s.dm.havereset, data0 := s.dm.data0 } = s.dm ∧
    (s.scu.mode.getLsbD 1 = true → s.applyResets.dm.data0 = s.dm.data0) := by
  have dm : s.settleDebugger.dm = s.dm := if_neg (Bool.eq_false_iff.1 noDm)
  rw [applyResets_settleDebugger core noPower]
  split
  · rw [State.clearHavereset, State.resetHart, dm]
    exact ⟨Bool.true_and _, rfl, fun _ => rfl⟩
  · next reset =>
    rw [State.resetHdu, State.clearHavereset, State.resetHart, dm]
    exact ⟨Bool.true_and _, rfl, fun kept => absurd kept reset⟩

/-- The debug units of the hart, kept as the event found them in `b`, or reset in the configuration of `b` (R513). -/
theorem applyResets_hduKept {b : State} (kept : s.scu.mode.getLsbD 1 = true) (found : HduKept b s) :
    HduKept b s.applyResets := by
  rw [applyResets_settleDebugger core noPower, if_pos kept]
  exact ⟨found.dcsr, found.dpc, found.tselect, found.triggers⟩

theorem applyResets_hduReset {b : State} (reset : s.scu.mode.getLsbD 1 = false) (cfg : s.cfg = b.cfg) :
    HduReset b s.applyResets := by
  rw [applyResets_settleDebugger core noPower, if_neg (Bool.eq_false_iff.1 reset)]
  exact ⟨rfl, rfl, cfg ▸ resetAll_tdata1 s.cfg, rfl⟩

end

/-- The debug units of the hart stand apart from the number of the step. -/
theorem HduKept.counted {s t : State} (h : HduKept s t) (n : Nat) : HduKept s { t with freeCtr := n } :=
  ⟨h.dcsr, h.dpc, h.tselect, h.triggers⟩

theorem HduReset.counted {s t : State} (h : HduReset s t) (n : Nat) : HduReset s { t with freeCtr := n } :=
  ⟨h.dcsr, h.tselect, h.tdata1, h.dscratch0⟩

/-! ## The step that asserts a reset (R543, R643) -/

/-- An event after which a Core Reset stands is its effect and the resets: the hart does not leave reset, and of time only the
number of the step moves. -/
theorem step_event_held {s t : State} {e : HostEvent} {rest : List HostEvent} (h : s.inputs = e :: rest) (he : e ≠ .run)
    (ht : eventEffect { s with inputs := rest } e = .next t) (held : t.applyResets.coreReset = true) :
    step s = .next { t.applyResets with freeCtr := t.applyResets.freeCtr + 1 } := by
  rw [step_event h he, hostEvent, ht]
  dsimp only [tickResult]
  rw [State.settle, if_neg (by simp [held]), State.tick_held held]

/-- The pin of Power-Up Reset leaves every unit at its reset value, memory apart (R642, R650; log 4). -/
theorem step_powerUp {s : State} {rest : List HostEvent} (h : s.inputs = .resetPin .pwrup true :: rest) :
    ∃ t, step s = .next t ∧ HartReset s t ∧ HduReset s t ∧ t.dm = Dm.reset ∧ t.scu = Scu.reset ∧ t.tap = Tap.reset ∧
      t.inputs = rest := by
  have acts := applyResets_powerUp (s := s.assertPin .pwrup rest) rfl
  have held : (s.assertPin .pwrup rest).applyResets.coreReset = true := by rw [acts]; rfl
  have hart : HartReset s (s.assertPin .pwrup rest).applyResets := by
    rw [acts]
    apply HartReset.resetHdu
    exact resetHart_hartReset rfl rfl
  have goes := step_event_held (t := s.assertPin .pwrup rest) h (by simp) rfl held
  rw [acts] at goes hart
  exact ⟨_, goes, hart.counted _, ⟨rfl, rfl, resetAll_tdata1 s.cfg, rfl⟩, rfl, rfl, rfl, rfl⟩

/-- Each of the two reset bits of CONTROL asserts the Core Reset (R511, R512). -/
theorem coreReset_of_control {s : State} (h : s.scu.control.getLsbD 0 = true ∨ s.scu.control.getLsbD 1 = true) :
    s.coreReset = true := by
  rcases h with h | h <;> simp [State.coreReset, State.sysReset, h]

/-- The machine after an SCU write of CONTROL, before the resets act. -/
def State.writeControl (s : State) (d : BitVec 4) (rest : List HostEvent) : State :=
  { s with
    scu := { s.scu with
      control := d
      lastOp := ScuOp.write.code
      lastAddr := 0
      lastData := (Config.freeWord s.freeCtr .scuData).extractLsb' 0 4 }
    inputs := rest }

theorem eventEffect_writeControl {s : State} (present : s.cfg.dbgEn = true) (d : BitVec 4) (rest : List HostEvent) :
    eventEffect { s with inputs := rest } (.scu .write 0 d) = .next (s.writeControl d rest) :=
  if_pos present

/-- Settles O45: every unit after Power-Up Reset, and after the resets that the written CONTROL asserts. -/
theorem powerUpAndScuResets : Obligations.PowerUpAndScuResets := by
  intro s rest
  refine ⟨step_powerUp, ?_⟩
  intro d h present noPower noTap asserted dmGoes
  have core : (s.writeControl d rest).coreReset = true := coreReset_of_control asserted
  have noPower' : (s.writeControl d rest).pins.pwrup = false := noPower
  have dmReset : (s.writeControl d rest).dmReset = dmGoes := dmReset_control noPower'
  obtain ⟨control, mode⟩ := applyResets_control_mode noPower'
  have held : (s.writeControl d rest).applyResets.coreReset = true := coreReset_of_control (control.symm ▸ asserted)
  have hart := applyResets_hartReset (b := s) core noPower' rfl rfl
  have units (kept : s.scu.mode.getLsbD 1 = true) :=
    applyResets_hduKept (b := s) core noPower' kept ⟨rfl, rfl, rfl, rfl⟩
  have unitsGo (reset : s.scu.mode.getLsbD 1 = false) := applyResets_hduReset (b := s) core noPower' reset rfl
  have dmKept (off : dmGoes = false) := applyResets_dm_kept core noPower' (dmReset.trans off)
  refine ⟨_, step_event_held h (by simp) (eventEffect_writeControl present d rest) held, hart.counted _,
    applyResets_inputs core noPower', control, mode, applyResets_tap core noPower' noTap,
    fun on => applyResets_dm_reset core noPower' (dmReset.trans on), fun off => ?dm,
    fun kept => ⟨(units kept).counted _, fun off => ?data0⟩, fun reset => (unitsGo reset).counted _⟩
  case dm =>
    obtain ⟨havereset, others, -⟩ := dmKept off
    exact ⟨havereset, others⟩
  case data0 =>
    obtain ⟨-, -, data0⟩ := dmKept off
    exact data0 kept

end Sys2Proof.Machine
end

section
/-! What a step of the machine is made of: the elementary updates that a predicate has to survive for every step to keep it. -/
namespace Sys2Proof.Machine

/-! ## Predicates on what goes on -/

/-- The outcome satisfies `I` where it goes on. -/
def Yields (I : State → Prop) : Result → Prop
  | .next t => I t
  | .fault _ => True
  | .refused _ => True

theorem Yields.of_next {I : State → Prop} {r : Result} {t : State} (h : Yields I r) (hr : r = .next t) : I t := by
  subst hr
  exact h

theorem yields_iff {I : State → Prop} {r : Result} : Yields I r ↔ ∀ t, r = .next t → I t := by
  cases r <;> simp [Yields]

/-- The parts of the state that the invariants of a step speak of. -/
structure Kernel where
  cfg : Config
  pc : Word
  csr : Csrs
  timer : Timer
  dcsr : Word
  tselect : Word
  triggers : List Trigger
  mem : Memory

def State.kernel (s : State) : Kernel := ⟨s.cfg, s.pc, s.csr, s.timer, s.dcsr, s.tselect, s.triggers, s.mem⟩

/-- An instruction of `len` bytes keeps an instruction address one (R26, R140). -/
def Fits (cfg : Config) (len : Nat) : Prop := len = 4 ∨ (len = 2 ∧ cfg.rvc = true)

/-- `I` depends on the kernel alone and survives every elementary update that a step is made of. -/
structure Invariant (I : State → Prop) : Prop where
  aside {s t : State} (hs : I s) (same : t.kernel = s.kernel := by rfl) : I t
  counts {s : State} (on : Bool) : I s → I (s.countInstr on)
  advances {s : State} {len : Nat} : Fits s.cfg len → I s → I (s.advance len)
  goes {s : State} {target : Word} : (s.pc.getLsbD 0 = false → target.getLsbD 0 = false) →
    (!s.cfg.rvc && target.getLsbD 1) = false → I s → I { s with pc := target }
  traps {s : State} (isInt : Bool) (code : BitVec 4) (tval epc : Word) : I s → I (s.takeTrap isInt code tval epc)
  returns {s : State} : I s → I { s with csr := { s.csr with mstatus := mretStatus s.csr.mstatus } }
  writesCsr {s t : State} {a : BitVec 12} {v : Word} : csrWrite s a v = .next t → I s → I t
  stores {s : State} (a : Word) (v n : Nat) : I s → I (s.store a v n)
  writesTimer {s : State} {p w off : Nat} {v : Word} {tm : Timer} :
    timerWrite s.timer p w off v = .ok tm → I s → I { s with timer := tm }
  entersDebug {s : State} (cause : BitVec 3) (dpc : Word) : I s → I (s.enterDebug cause dpc)
  marksHits {s : State} {ms : List Bool} : ms.length = s.triggers.length → I s →
    I { s with triggers := setHits s.triggers ms }
  marksFired {s : State} (n : Nat) : I s → I { s with triggers := s.triggers.map (markFired n) }
  ticks {s : State} : I s → I s.tick
  resetsHart {s : State} : I s → I s.resetHart
  resetsHdu {s : State} : I s → I s.resetHdu

/-! ## The shapes of a meaning, with its length and its targets -/

/-- The meaning of an instruction of `len` bytes, with what keeps pc an instruction address: the length, and targets that are
even where pc is (R230 to R233). -/
inductive FlowShape (s : State) (len : Nat) : Result → Prop where
  | writeBack (rd : Reg) (v : Word) : FlowShape s len (writeBack s rd v len)
  | jump (rd : Reg) (target : Word) (even : s.pc.getLsbD 0 = false → target.getLsbD 0 = false) :
      FlowShape s len (jumpTo s rd len target)
  | branch (c : Bool) (off : Word) (even : off.getLsbD 0 = false) : FlowShape s len (branchIf s c off len)
  | load (rd : Reg) (a : Word) (n : Nat) (ext : Word → Word) : FlowShape s len (loadTo s rd a n ext len)
  | store (a : Word) (n : Nat) (v : Word) : FlowShape s len (storeTo s a n v len)
  | nop : FlowShape s len (.next (s.retire len))
  | fenceI : FlowShape s len (.next (s.flushFetch.retire len))
  | wfi : FlowShape s len (.next ((waitForInterrupt s).retire len))
  | exception (e : Exc) (tval : Word) : FlowShape s len (raise s e tval)
  | breakpoint : FlowShape s len (breakpoint s)
  | trapReturn : FlowShape s len s.trapReturn
  | csr (instr : Word) (rd : Reg) (a : BitVec 12) (writes plain : Bool) (new : Word → Word) (long : len = 4) :
      FlowShape s len (csrInstr s instr rd a writes plain new)
  | refused (r : Refusal) : FlowShape s len (.refused r)

theorem FlowShape.unlessDebug {s : State} {len : Nat} {r : Result} (h : FlowShape s len r) (why : Refusal) :
    FlowShape s len (if s.debugMode then .refused why else r) := by
  split
  · exact .refused why
  · exact h

theorem offset_even {w : Nat} (off : BitVec w) : (BitVec.ofInt 32 (off.toInt * 2)).getLsbD 0 = false := by
  rw [offset_eq_append, BitVec.getLsbD_signExtend, BitVec.getLsbD_append]
  simp

theorem add_even {a b : Word} (ha : a.getLsbD 0 = false) (hb : b.getLsbD 0 = false) : (a + b).getLsbD 0 = false := by
  rw [BitVec.getLsbD_add (by decide), ha, hb, BitVec.carry_zero]
  rfl

theorem indirectTarget_even (sum : Word) : (indirectTarget sum).getLsbD 0 = false := by
  simp [indirectTarget]

/-- Every instruction is one of the shapes at its own length. -/
theorem exec_flowShape (i : Instr) (s : State) : FlowShape s i.len (exec i s) := by
  cases i with
  | lui | addi | slti | sltiu | xori | ori | andi | slli | srli | srai | add | sub | sll | slt | sltu | xor | srl | sra | or | and
  | mul | mulh | mulhsu | mulhu | div | divu | rem | remu
  | cAddi4spn | cAddi | cLi | cAddi16sp | cLui | cSrli | cSrai | cAndi | cSub | cXor | cOr | cAnd | cSlli | cMv | cAdd =>
    exact .writeBack _ _
  | auipc => exact (FlowShape.writeBack _ _).unlessDebug _
  | jal rd off => exact .jump _ _ fun h => add_even h (offset_even off)
  | cJal off | cJ off => exact .jump _ _ fun h => add_even h (offset_even off)
  | jalr | cJr | cJalr => exact .jump _ _ fun _ => indirectTarget_even _
  | beq rs1 rs2 off | bne rs1 rs2 off | blt rs1 rs2 off | bge rs1 rs2 off | bltu rs1 rs2 off | bgeu rs1 rs2 off =>
    exact .branch _ _ (offset_even off)
  | cBeqz rs1 off | cBnez rs1 off => exact .branch _ _ (offset_even off)
  | lb | lh | lw | lbu | lhu | cLw | cLwsp => exact .load _ _ _ _
  | sb | sh | sw | cSw | cSwsp => exact .store _ _ _
  | fence | cNop => exact .nop
  | fenceI => exact .fenceI
  | wfi => exact .wfi
  | ecall => exact (FlowShape.exception _ _).unlessDebug _
  | cIllegal => exact .exception _ _
  | ebreak | cEbreak => exact .breakpoint
  | mret => exact FlowShape.trapReturn.unlessDebug _
  | csrrw | csrrs | csrrc | csrrwi | csrrsi | csrrci => unfold exec; exact .csr _ _ _ _ _ _ rfl

theorem fits_len {cfg : Config} {i : Instr} (wf : i.wellFormed cfg = true) : Fits cfg i.len := by
  unfold Instr.len
  by_cases hc : i.isCompressed = true
  · rw [if_pos hc]
    exact .inr ⟨rfl, rvc_of_wellFormed wf hc⟩
  · rw [if_neg hc]
    exact .inl rfl

theorem wellFormed_of_decodeWindow {cfg : Config} {w : Word} {i : Instr} (h : decodeWindow cfg w = .ok i) :
    i.wellFormed cfg = true := by
  cases hs : isShort cfg (w.extractLsb' 0 16) with
  | true => exact ((decodeWindow_short_iff hs).1 h).2
  | false => exact ((decodeWindow_long_iff hs).1 h).2

/-! ## One instruction -/

theorem matchChain_length (pc : Word) (d : DataAccess) (allowed : Bool) (ts : List Trigger) :
    (matchChain pc d allowed ts).length = ts.length := by
  induction ts generalizing allowed with
  | nil => rfl
  | cons t ts ih => simp [matchChain, ih]

namespace Invariant
variable {I : State → Prop} (inv : Invariant I) {s : State} (hs : I s)
include inv hs

theorem setReg (r : Reg) (v : Word) : I (s.setReg r v) := inv.aside hs (by simp [State.kernel])

theorem retire {len : Nat} (fits : Fits s.cfg len) : I (s.retire len) := inv.advances fits (inv.counts _ hs)

theorem wait : I s.wait := inv.aside hs

theorem raise (e : Exc) (tval : Word) : Yields I (raise s e tval) := by
  unfold Machine.raise
  split
  · exact inv.aside hs
  · exact inv.traps _ _ _ _ hs

theorem writeBack {len : Nat} (fits : Fits s.cfg len) (rd : Reg) (v : Word) : Yields I (writeBack s rd v len) :=
  inv.retire (inv.setReg hs rd v) (by rwa [State.setReg_cfg])

theorem jumpTo (rd : Reg) (len : Nat) {target : Word} (even : s.pc.getLsbD 0 = false → target.getLsbD 0 = false) :
    Yields I (jumpTo s rd len target) := by
  unfold Machine.jumpTo
  split
  · trivial
  · split
    · exact inv.raise hs _ _
    · next legal =>
      have linked := inv.setReg (inv.counts s.countsInstret hs) rd (s.pc + BitVec.ofNat 32 len)
      exact inv.aside (inv.goes (target := target) (by simpa using even) (by simpa using legal) linked)

theorem branchIf {len : Nat} (fits : Fits s.cfg len) (c : Bool) {off : Word} (even : off.getLsbD 0 = false) :
    Yields I (branchIf s c off len) := by
  cases c with
  | false => exact inv.retire hs fits
  | true => exact inv.jumpTo hs 0 len fun h => add_even h even

theorem loadTo {len : Nat} (fits : Fits s.cfg len) (rd : Reg) (a : Word) (n : Nat) (ext : Word → Word) :
    Yields I (loadTo s rd a n ext len) := by
  unfold Machine.loadTo
  split
  · exact inv.writeBack hs fits rd _
  · exact inv.raise hs _ _
  · trivial
  · exact inv.wait hs

theorem memWrite {a v : Word} {n : Nat} {t : State} (h : memWrite s a n v = .ok t) : I t ∧ t.cfg = s.cfg := by
  obtain ⟨-, ⟨-, -, tm, written, rfl⟩ | ⟨-, rfl⟩⟩ := memWrite_ok h
  · exact ⟨inv.writesTimer written hs, rfl⟩
  · exact ⟨inv.stores a _ n hs, by rw [State.store_eq]⟩

theorem storeTo {len : Nat} (fits : Fits s.cfg len) (a : Word) (n : Nat) (v : Word) : Yields I (storeTo s a n v len) := by
  unfold Machine.storeTo
  split
  · next written =>
    obtain ⟨ht, cfg⟩ := inv.memWrite hs written
    exact inv.retire ht (by rwa [cfg])
  · exact inv.raise hs _ _
  · trivial
  · exact inv.wait hs

theorem breakpoint : Yields I (breakpoint s) := by
  unfold Machine.breakpoint
  split
  · exact inv.aside hs
  · split
    · exact inv.entersDebug _ _ hs
    · exact inv.raise hs _ _

theorem trapReturn : Yields I s.trapReturn := by
  unfold State.trapReturn
  dsimp only
  split
  · trivial
  · next legal =>
    have returned := inv.returns (inv.counts s.countsInstret hs)
    refine inv.aside (inv.goes (target := s.csr.mepc &&& 0xFFFFFFFE) (fun _ => ?_) (by simpa using legal) returned)
    simp

theorem waitForInterrupt : I (waitForInterrupt s) := by
  unfold Machine.waitForInterrupt
  split
  · exact hs
  · exact inv.aside hs

theorem countCsr (s0 : State) (a : BitVec 12) (writes : Bool) : I (State.countCsr s0 s a writes) := by
  unfold State.countCsr
  split <;> exact inv.counts _ hs

theorem csrInstr (instr : Word) (rd : Reg) (a : BitVec 12) (writes plain : Bool) (new : Word → Word) :
    Yields I (csrInstr s instr rd a writes plain new) := by
  refine yields_iff.2 fun t h => ?_
  obtain ⟨-, raises⟩ | ⟨-, -, w, written, rfl⟩ := csrInstr_cases h
  · exact (inv.raise hs _ _).of_next raises
  · have hw : I w := by
      cases writes
      · cases written
        exact hs
      · exact inv.writesCsr written hs
    exact inv.advances (.inl rfl) (inv.setReg (inv.countCsr hw s a writes) rd _)

/-- An instruction of the configuration keeps the invariant. -/
theorem exec {i : Instr} (wf : i.wellFormed s.cfg = true) : Yields I (exec i s) := by
  have shape := exec_flowShape i s
  have fits := fits_len wf
  generalize i.len = len at shape fits
  generalize Machine.exec i s = r at shape
  cases shape with
  | writeBack rd v => exact inv.writeBack hs fits rd v
  | jump rd target even => exact inv.jumpTo hs rd len even
  | branch c off even => exact inv.branchIf hs fits c even
  | load rd a n ext => exact inv.loadTo hs fits rd a n ext
  | store a n v => exact inv.storeTo hs fits a n v
  | nop => exact inv.retire hs fits
  | fenceI => exact inv.retire (inv.aside hs) fits
  | wfi => exact inv.retire (inv.waitForInterrupt hs) (by rwa [waitForInterrupt_cfg])
  | exception e tval => exact inv.raise hs e tval
  | breakpoint => exact inv.breakpoint hs
  | trapReturn => exact inv.trapReturn hs
  | csr instr rd a writes plain new => exact inv.csrInstr hs instr rd a writes plain new
  | refused r => trivial

theorem runWindow (w : Word) : Yields I (runWindow s w) := by
  unfold Machine.runWindow
  split
  · exact inv.raise hs _ _
  · next decoded => exact inv.exec hs (wellFormed_of_decodeWindow decoded)

/-! ## One boundary -/

theorem fireAction (fs : List Trigger) {t : State} (h : fireAction s fs = some t) : I t := by
  cases fs with
  | nil => cases h
  | cons f fs =>
    unfold Machine.fireAction at h
    dsimp only at h
    split at h <;> cases h
    · exact inv.entersDebug _ _ hs
    · exact inv.traps _ _ _ _ hs

theorem checkTriggers (d : DataAccess) :
    I (checkTriggers s d).1 ∧ ∀ t, (checkTriggers s d).2 = some t → I t := by
  have hit := inv.marksHits (matchChain_length s.pc d true s.triggers) hs
  exact ⟨hit, fun t h => inv.fireAction hit _ h⟩

theorem runInstr : Yields I (runInstr s) := by
  obtain ⟨hit, fired⟩ := inv.checkTriggers hs (upcomingAccess s)
  unfold Machine.runInstr
  split
  · next t eq => exact fired t (by rw [eq])
  · next t eq =>
    rw [eq] at hit
    split
    · exact inv.runWindow hit _
    · exact inv.raise hit _ _
    · trivial
    · exact inv.wait hit

theorem icountStep (x : Trigger) : Yields I (icountStep x s) := by
  have fired := inv.marksFired s.freeCtr hs
  unfold Machine.icountStep
  split
  · split
    · trivial
    · exact hs
  · split
    · trivial
    · dsimp only
      split
      · exact inv.entersDebug _ _ fired
      · exact inv.traps _ _ _ _ fired

theorem afterIcount (before : State) : Yields I (afterIcount before s) := by
  unfold Machine.afterIcount
  split
  · exact hs
  · split
    · exact inv.icountStep hs _
    · exact hs

theorem afterStep (fired : Bool) (before : State) : I (afterStep fired before s) := by
  unfold Machine.afterStep
  split
  · exact inv.entersDebug _ _ hs
  · exact hs

theorem runOne : Yields I (runOne s) := by
  have ran := inv.runInstr hs
  unfold Machine.runOne
  split
  · next t eq =>
    have ht := ran.of_next eq
    split
    · exact ht
    · split
      · trivial
      · have counted := inv.afterIcount ht s
        split
        · next u eq => exact inv.afterStep (counted.of_next eq) _ s
        · trivial
        · trivial
  · trivial
  · trivial

theorem honourHalt : I (honourHalt s) := by
  unfold Machine.honourHalt
  split
  · exact inv.entersDebug _ _ (inv.checkTriggers hs _).1
  · exact inv.entersDebug _ _ hs

theorem hartStep : Yields I (hartStep s) := by
  unfold Machine.hartStep
  split
  · exact hs
  · split
    · trivial
    · split
      · exact inv.honourHalt hs
      · split
        · exact inv.afterStep (inv.traps _ _ _ _ hs) false s
        · split
          · exact hs
          · exact inv.runOne (inv.aside hs)

/-! ## The debugger -/

theorem withDm (dm : Dm) : I { s with dm := dm } := inv.aside hs

end Invariant

theorem Invariant.pbRun {I : State → Prop} (inv : Invariant I) (fuel o : Nat) {s : State} (hs : I s) :
    Yields I (pbRun fuel o s) := by
  induction fuel generalizing o s with
  | zero => exact inv.aside hs
  | succ fuel ih =>
    unfold Machine.pbRun
    dsimp only
    split
    · exact inv.aside hs
    · split
      · trivial
      · split
        · exact inv.aside hs
        · next decoded =>
          have wf := wellFormed_of_decodeWindow decoded
          have ran := inv.exec (s := { s with pb := .none }) (inv.aside hs) wf
          split
          · next t eq =>
            have ht := ran.of_next eq
            split
            · exact ih _ (inv.ticks ht)
            · exact ht
          · trivial
          · trivial

namespace Invariant
variable {I : State → Prop} (inv : Invariant I) {s : State} (hs : I s)
include inv hs

theorem runProgbuf : Yields I (runProgbuf s) := by
  have ran := inv.pbRun 13 0 (s := { s with pb := .none }) (inv.aside hs)
  unfold Machine.runProgbuf
  split
  · next t eq =>
    have ht := ran.of_next eq
    split
    · exact inv.aside ht
    · split <;> exact inv.aside ht
  · trivial
  · trivial

theorem transferReg {regno : Nat} {write : Bool} {r : Result} (h : transferReg s regno write = some r) : Yields I r := by
  unfold Machine.transferReg at h
  split at h
  · cases h
  · cases h
    dsimp only [Yields]
    split
    · exact inv.setReg hs _ _
    · exact inv.aside hs
  · split at h
    · split at h
      · cases h
      · cases h
        exact yields_iff.2 fun t written => inv.writesCsr written hs
    · cases h
      exact inv.aside hs

theorem accessRegister (c : Word) : Yields I (accessRegister s c) := by
  have fails (e : BitVec 3) : I (s.failCommand e) := inv.aside hs
  unfold Machine.accessRegister
  dsimp only
  split
  · exact fails 2
  · split
    · split
      · split
        · exact inv.aside hs
        · exact fails 4
      · exact fails 4
    · split
      · exact inv.aside hs
      · split
        · exact fails 3
        · next t eq =>
          have ht : I t := by
            split at eq
            · exact inv.transferReg hs eq
            · cases eq
              exact hs
          split
          · exact inv.runProgbuf ht
          · exact inv.aside ht
        · trivial
        · trivial

theorem accessMemory (c : Word) : Yields I (accessMemory s c) := by
  have fails (e : BitVec 3) : I (s.failCommand e) := inv.aside hs
  unfold Machine.accessMemory
  dsimp only
  split
  · exact fails 2
  · split
    · exact fails 4
    · split
      · exact inv.aside hs
      · split
        · split
          · next written => exact (inv.memWrite hs written).1
          · exact fails 3
          · trivial
          · exact inv.aside hs
        · split
          · exact inv.aside hs
          · exact fails 3
          · trivial
          · exact inv.aside hs

theorem runCommand : Yields I (runCommand s) := by
  unfold Machine.runCommand
  split
  · exact hs
  · split
    · trivial
    · split
      · exact inv.accessRegister hs _
      · exact inv.accessMemory hs _
      · exact inv.aside hs

theorem autoexec (k : Nat) : Yields I (autoexec s k) := by
  unfold Machine.autoexec
  split
  · exact inv.runCommand hs
  · exact hs

theorem resume : Yields I s.resume := by
  unfold State.resume
  split
  · next legal =>
    simp only [pcAligned, Bool.and_eq_true, Bool.not_eq_true'] at legal
    obtain ⟨even, aligned⟩ := legal
    exact inv.aside (inv.goes (target := s.dpc) (fun _ => even) (by cases h : s.cfg.rvc <;> simp_all) hs)
  · trivial

theorem writeDmcontrol (v : Word) : Yields I (writeDmcontrol s v) := by
  unfold Machine.writeDmcontrol
  dsimp only
  split
  · exact inv.aside hs
  · split
    · exact inv.aside hs
    · split
      · trivial
      · split
        · exact inv.resume (inv.withDm hs _)
        · exact inv.withDm hs _

theorem writeDm (a : Nat) (v : Word) : Yields I (writeDm s a v) := by
  unfold Machine.writeDm
  split
  · exact inv.autoexec (inv.aside hs) 0
  · exact inv.autoexec (inv.aside hs) 1
  · exact inv.aside hs
  · split
    · exact hs
    · exact inv.runCommand (inv.withDm hs _)
  · exact inv.aside hs
  any_goals exact inv.aside hs
  all_goals trivial

theorem busyError : I s.busyError := by
  unfold State.busyError
  split
  · exact inv.aside hs
  · exact hs

theorem dmiRead (a : BitVec 7) : Yields I (dmiRead s a) := by
  have captured (v : Word) : I (s.setDmi a v) := inv.aside hs
  unfold Machine.dmiRead
  dsimp only
  split
  · trivial
  · split
    · trivial
    · split
      · exact inv.busyError (captured _)
      · split
        · exact inv.autoexec (captured _) 0
        · split
          · exact inv.autoexec (captured _) 1
          · exact captured _

theorem dmiWrite (a : BitVec 7) (v : Word) : Yields I (dmiWrite s a v) := by
  have captured (w : Word) : I (s.setDmi a w) := inv.aside hs
  unfold Machine.dmiWrite
  dsimp only
  split
  · exact inv.writeDmcontrol (captured _) v
  · split
    · trivial
    · split
      · trivial
      · split
        · exact inv.busyError (captured _)
        · split
          · exact inv.writeDm (captured _) a.toNat v
          · exact captured _

/-! ## Events -/

theorem scuAccess (op : ScuOp) (a : BitVec 2) (d : BitVec 4) : Yields I (scuAccess s op a d) := by
  unfold Machine.scuAccess
  split
  · trivial
  · exact inv.aside hs

theorem dtmcsUpdate (dr : BitVec 41) : I (dtmcsUpdate s dr) := by
  unfold Machine.dtmcsUpdate
  split
  · exact inv.aside hs
  · split
    · exact inv.aside hs
    · exact hs

theorem dmiUpdate (dr : BitVec 41) : Yields I (dmiUpdate s dr) := by
  unfold Machine.dmiUpdate
  dsimp only
  split
  · exact hs
  · split
    · exact inv.aside hs
    · exact inv.dmiRead hs _
    · exact inv.dmiWrite hs _ _
    · trivial

theorem drScan (dr : BitVec 41) : Yields I (drScan s dr) := by
  have shifted (v : Nat) : I (s.setTdo v) := inv.aside hs
  unfold Machine.drScan
  split
  · exact shifted _
  · exact shifted _
  · exact inv.scuAccess (shifted _) _ _ _
  · exact inv.dtmcsUpdate (shifted _) dr
  · exact inv.dmiUpdate (shifted _) dr
  · exact shifted _

theorem eventEffect (e : HostEvent) : Yields I (eventEffect s e) := by
  cases e with
  | run => exact hs
  | softIrq | extIrq | irqLine | resetPin => exact inv.aside hs
  | busWrite a v =>
    dsimp only [Machine.eventEffect, Yields]
    split
    · exact hs
    · exact inv.stores a _ 1 hs
  | dmiRead a =>
    dsimp only [Machine.eventEffect]
    split
    · exact inv.dmiRead hs a
    · exact hs
  | dmiWrite a v =>
    dsimp only [Machine.eventEffect]
    split
    · exact inv.dmiWrite hs a v
    · exact hs
  | scu op a d =>
    dsimp only [Machine.eventEffect]
    split
    · exact inv.scuAccess hs op a d
    · exact hs
  | irScan ir =>
    dsimp only [Machine.eventEffect]
    split
    · exact inv.aside hs
    · exact hs
  | drScan dr =>
    dsimp only [Machine.eventEffect]
    split
    · exact inv.drScan hs dr
    · exact hs

theorem settleScu : I s.settleScu := by
  unfold State.settleScu
  split <;> exact inv.aside hs

theorem applyResets : I s.applyResets := by
  have scu := inv.settleScu hs
  unfold State.applyResets
  dsimp only
  generalize s.settleScu = s1 at scu
  have tap : I (if s1.tapReset then { s1 with tap := Tap.reset } else s1) := by
    split
    · exact inv.aside scu
    · exact scu
  generalize (if s1.tapReset then { s1 with tap := Tap.reset } else s1) = s2 at tap
  have dm : I (if s2.dmReset then { s2 with dm := Dm.reset } else s2) := by
    split
    · exact inv.aside tap
    · exact tap
  generalize (if s2.dmReset then { s2 with dm := Dm.reset } else s2) = s3 at dm
  have hart : I (if s.coreReset then s3.resetHart.clearHavereset else s3) := by
    split
    · exact inv.aside (inv.resetsHart dm)
    · exact dm
  split
  · exact inv.resetsHdu hart
  · exact hart

theorem settle (before : State) : I (State.settle before s) := by
  unfold State.settle
  dsimp only
  split
  · exact inv.entersDebug _ _ (inv.applyResets hs)
  · exact inv.applyResets hs

theorem hostEvent (e : HostEvent) : Yields I (hostEvent e s) := by
  have acted := inv.eventEffect hs e
  unfold Machine.hostEvent
  split
  · next t eq => exact inv.settle (acted.of_next eq) s
  · trivial
  · trivial

omit hs in
theorem tickResult {r : Result} (h : Yields I r) : Yields I (tickResult r) := by
  cases r with
  | next t => exact inv.ticks h
  | fault r => trivial
  | refused r => trivial

/-- A predicate that survives the elementary updates is kept by every step. -/
theorem step {t : State} (h : step s = .next t) : I t := by
  have stepped : Yields I (Machine.step s) := by
    unfold Machine.step
    split
    · exact inv.tickResult (inv.hartStep hs)
    · exact inv.tickResult (inv.hartStep (inv.aside hs))
    · exact inv.tickResult (inv.hostEvent (inv.aside hs) _)
  exact stepped.of_next h

end Invariant
end Sys2Proof.Machine
end

section
/-! The invariants of every step: canonical memory (O38), reserved bits (O39), an aligned pc (O40). -/
namespace Sys2Proof.Machine

/-! ## Canonical memory (log 4) -/

theorem memoryCanonical_invariant : Invariant (fun s => s.mem.wf) where
  aside hs same := by
    have mem := congrArg Kernel.mem same
    dsimp only [State.kernel] at mem
    rwa [mem]
  counts _ hs := hs
  advances _ hs := by rwa [State.advance_mem]
  goes _ _ hs := hs
  traps _ _ _ _ hs := hs
  returns hs := hs
  writesCsr written hs := by rwa [(csrWrite_frame written).mem]
  stores a v n hs := State.wf_store hs a v n
  writesTimer _ hs := hs
  entersDebug _ _ hs := hs
  marksHits _ hs := hs
  marksFired _ hs := hs
  ticks hs := by rwa [State.tick_mem]
  resetsHart hs := hs
  resetsHdu hs := hs

/-- Settles O38: memory changes by stores alone, and a store keeps the form. -/
theorem stepKeepsMemoryCanonical : Obligations.StepKeepsMemoryCanonical :=
  fun _ _ canonical stepped => memoryCanonical_invariant.step canonical stepped

/-! ## An aligned pc (R26) -/

theorem pcAligned_iff {cfg : Config} {a : Word} :
    pcAligned cfg a = true ↔ a.getLsbD 0 = false ∧ (!cfg.rvc && a.getLsbD 1) = false := by
  cases h : cfg.rvc <;> simp [pcAligned, h]

theorem pcAligned_add_len {cfg : Config} {a : Word} {len : Nat} (fits : Fits cfg len) (h : pcAligned cfg a = true) :
    pcAligned cfg (a + BitVec.ofNat 32 len) = true := by
  rw [pcAligned_iff] at h ⊢
  obtain ⟨even, aligned⟩ := h
  rcases fits with rfl | ⟨rfl, rvc⟩
  · have sum : (a + 4#32).getLsbD 0 = a.getLsbD 0 ∧ (a + 4#32).getLsbD 1 = a.getLsbD 1 := by
      simp only [BitVec.getLsbD, BitVec.toNat_add, Nat.testBit_eq_decide_div_mod_eq, decide_eq_decide]
      constructor <;> simp <;> omega
    rw [sum.1, sum.2]
    exact ⟨even, aligned⟩
  · exact ⟨add_even even (by decide), by simp [rvc]⟩

theorem vector_aligned (cfg : Config) (mtvec : Word) (isInt : Bool) (code : BitVec 4) :
    pcAligned cfg (vector mtvec isInt code) = true := by
  have low : (vector mtvec isInt code).toNat % 4 = 0 := by
    have base : (mtvec &&& 0xFFFFFFC0).toNat % 64 = 0 := by
      have bits : (mtvec &&& 0xFFFFFFC0).extractLsb' 0 6 = 0 := by
        ext i hi
        have : i < 6 := hi
        interval_cases i <;> simp
      have := congrArg BitVec.toNat bits
      simpa [BitVec.extractLsb'_toNat] using this
    unfold vector
    dsimp only
    split
    · simp only [BitVec.toNat_add, BitVec.toNat_ofNat]
      omega
    · omega
  rw [pcAligned_iff]
  have bits : (vector mtvec isInt code).getLsbD 0 = false ∧ (vector mtvec isInt code).getLsbD 1 = false := by
    simp only [BitVec.getLsbD, Nat.testBit_eq_decide_div_mod_eq, decide_eq_false_iff_not]
    constructor <;> simp <;> omega
  rw [bits.2, Bool.and_false]
  exact ⟨bits.1, rfl⟩

theorem pcLegal_invariant : Invariant State.PcLegal where
  aside hs same := by
    obtain ⟨pc, vector⟩ := hs
    have cfg := congrArg Kernel.cfg same
    have samePc := congrArg Kernel.pc same
    dsimp only [State.kernel] at cfg samePc
    exact ⟨by rwa [cfg, samePc], by rwa [cfg]⟩
  counts _ hs := ⟨hs.pc, hs.rstVector⟩
  advances {s len} fits hs := by
    refine ⟨?_, by rw [State.advance_cfg]; exact hs.rstVector⟩
    rw [State.advance_cfg]
    unfold State.advance
    split
    · exact hs.pc
    · exact pcAligned_add_len fits hs.pc
  goes even aligned hs := ⟨pcAligned_iff.2 ⟨even (pcAligned_iff.1 hs.pc).1, aligned⟩, hs.rstVector⟩
  traps isInt code _ _ hs := ⟨vector_aligned _ _ isInt code, hs.rstVector⟩
  returns hs := ⟨hs.pc, hs.rstVector⟩
  writesCsr written hs := by
    obtain ⟨pc, vector⟩ := hs
    have frame := csrWrite_frame written
    exact ⟨by rwa [frame.cfg, frame.pc], by rwa [frame.cfg]⟩
  stores a v n hs := by
    rw [State.store_eq]
    exact ⟨hs.pc, hs.rstVector⟩
  writesTimer _ hs := ⟨hs.pc, hs.rstVector⟩
  entersDebug _ _ hs := ⟨hs.pc, hs.rstVector⟩
  marksHits _ hs := ⟨hs.pc, hs.rstVector⟩
  marksFired _ hs := ⟨hs.pc, hs.rstVector⟩
  ticks hs := ⟨by rw [State.tick_cfg, State.tick_pc]; exact hs.pc, by rw [State.tick_cfg]; exact hs.rstVector⟩
  resetsHart hs := ⟨hs.rstVector, hs.rstVector⟩
  resetsHdu hs := ⟨hs.pc, hs.rstVector⟩

/-- Settles O40: pc moves by the length of an instruction, to a checked target, to a vector or to the reset vector. -/
theorem stepKeepsPcAligned : Obligations.StepKeepsPcAligned :=
  fun _ _ legal stepped => pcLegal_invariant.step legal stepped

/-! ## Reserved bits: the CSRs (R34 to R45) -/

/-- Bits taken under one mask show nothing under a mask apart from it. -/
theorem and_and_of_disjoint {w : Nat} (v k m : BitVec w) (disjoint : k &&& m = 0) : v &&& k &&& m = 0 := by
  rw [BitVec.and_assoc, disjoint]
  exact BitVec.and_zero

theorem and_or_distrib {w : Nat} (a b m : BitVec w) : (a ||| b) &&& m = a &&& m ||| b &&& m := by
  ext i hi
  simp [Bool.and_or_distrib_right]

theorem mstatusOf_reserved (v : Word) : mstatusOf v &&& ~~~0x88 = 0x1800 := by
  unfold mstatusOf
  rw [and_or_distrib, and_and_of_disjoint v 0x88 (~~~0x88) (by decide)]
  decide

theorem mepcBits_low (cfg : Config) (v : Word) : (mepcBits cfg v).getLsbD 0 = false := by
  unfold mepcBits
  split <;> simp

theorem mepcBits_bit1 {cfg : Config} (noC : cfg.rvc = false) (readOnly : cfg.mepcBit1Rw = false) (v : Word) :
    (mepcBits cfg v).getLsbD 1 = false := by
  simp [mepcBits, noC, readOnly]

theorem causeWord_reserved (isInt : Bool) (code : BitVec 4) : causeWord isInt code &&& ~~~0x8000000F = 0 := by
  revert code
  cases isInt <;> decide

/-- The bits of BASE that the mask makes writable (R37, D16). -/
theorem mtvecBaseMask_getLsbD (cfg : Config) {k : Nat} (hk : k < 32) :
    (mtvecBaseMask cfg).getLsbD k = (decide (6 ≤ k) && cfg.mtvecBaseWrMask.getLsbD (k - 6)) := by
  rw [mtvecBaseMask, BitVec.getLsbD_ofNat, decide_eq_true hk, Bool.true_and, show 64 = 2 ^ 6 from rfl,
    Nat.testBit_mul_two_pow]
  rfl

theorem getLsbD_one {k : Nat} (hk : k < 32) : (1 : Word).getLsbD k = decide (k = 0) := by
  interval_cases k <;> rfl

theorem getLsbD_highBits {k : Nat} (hk : k < 32) : (0xFFFFFFC0 : Word).getLsbD k = decide (6 ≤ k) := by
  interval_cases k <;> rfl

/-- The written MTVEC, bit by bit: BASE from the value or from the configuration, MODE where it is writable (R37, D16). -/
theorem mtvecOf_getLsbD (cfg : Config) (v : Word) {k : Nat} (hk : k < 32) :
    (mtvecOf cfg v).getLsbD k =
      if 6 ≤ k then if cfg.mtvecBaseWrMask.getLsbD (k - 6) then v.getLsbD k else cfg.mtvecBase.getLsbD k
      else decide (k = 0) && cfg.mtvecModeEn && v.getLsbD 0 := by
  have mode : (if cfg.mtvecModeEn then v &&& 0x1 else 0).getLsbD k = (decide (k = 0) && cfg.mtvecModeEn && v.getLsbD 0) := by
    cases cfg.mtvecModeEn with
    | false => simp
    | true =>
      rw [if_pos rfl, BitVec.getLsbD_and, getLsbD_one hk]
      by_cases zero : k = 0 <;> simp [zero]
  rw [mtvecOf, BitVec.getLsbD_or, BitVec.getLsbD_or, mode]
  simp only [BitVec.getLsbD_and, BitVec.getLsbD_not, mtvecBaseMask_getLsbD cfg hk, getLsbD_highBits hk, hk, decide_true,
    Bool.true_and]
  by_cases base : 6 ≤ k
  · cases cfg.mtvecBaseWrMask.getLsbD (k - 6) <;> simp [base, show k ≠ 0 by omega]
  · simp [base]

theorem mtvecOf_reserved (cfg : Config) (v : Word) : mtvecOf cfg v &&& 0x3E = 0 := by
  apply BitVec.eq_of_getLsbD_eq
  intro k hk
  have reserved : (0x3E : Word).getLsbD k = decide (1 ≤ k ∧ k < 6) := by interval_cases k <;> rfl
  rw [BitVec.getLsbD_and, mtvecOf_getLsbD cfg v hk, reserved, show (0 : Word) = 0#32 from rfl, BitVec.getLsbD_zero]
  by_cases base : 6 ≤ k
  · simp [show ¬ k < 6 by omega]
  · by_cases zero : k = 0 <;> simp [base, zero]

theorem and_highBits_low (v : Word) : v &&& 0xFFFFFFC0 &&& 0x3E = 0 := and_and_of_disjoint v _ _ (by decide)

theorem Csrs.reset_legal (cfg : Config) : (Csrs.reset cfg).Legal where
  mstatus := by simp [Csrs.reset]
  mie := by simp [Csrs.reset]
  mtvec := and_highBits_low _
  mepc := by simp [Csrs.reset]
  mcause := by simp [Csrs.reset]
  mcounten := by simp [Csrs.reset]

theorem Csrs.reset_legalIn (cfg : Config) : (Csrs.reset cfg).LegalIn cfg where
  base k low high _ := by
    rw [Csrs.reset, BitVec.getLsbD_and, getLsbD_highBits high, decide_eq_true low, Bool.and_true]
  mode _ := by simp [Csrs.reset]
  mepc _ _ := by simp [Csrs.reset]

/-! ## Reserved bits: the timer (R51, R55) -/

theorem timerWrite_legal {t u : Timer} {p w off : Nat} {v : Word} (h : timerWrite t p w off v = .ok u) (legal : t.Legal) :
    u.Legal := by
  have inside : u.prescaler < u.div.toNat + 1 := by
    rcases timerWrite_prescaler h with inside | ⟨prescaler, div⟩
    · exact inside
    · rw [prescaler, div]
      exact legal.prescaler
  have fields : u.ctrl &&& ~~~0x3 = 0 ∧ u.div &&& ~~~0x3FF = 0 := by
    unfold timerWrite at h
    have ctrl : v &&& 0x3 &&& ~~~0x3 = 0 := and_and_of_disjoint v _ _ (by decide)
    have div : v &&& 0x3FF &&& ~~~0x3FF = 0 := and_and_of_disjoint v _ _ (by decide)
    split at h <;> cases h
    · rw [Timer.unsettle_ctrl, Timer.unsettle_div]
      exact ⟨ctrl, legal.div⟩
    · rw [Timer.unsettle_ctrl, Timer.unsettle_div]
      exact ⟨legal.ctrl, div⟩
    · rw [Timer.unsettle_ctrl, Timer.unsettle_div]
      exact ⟨legal.ctrl, legal.div⟩
    · rw [Timer.unsettle_ctrl, Timer.unsettle_div]
      exact ⟨legal.ctrl, legal.div⟩
    · exact ⟨legal.ctrl, legal.div⟩
    · exact ⟨legal.ctrl, legal.div⟩
  exact ⟨fields.1, fields.2, inside⟩

theorem Timer.tick_legal {t : Timer} (legal : t.Legal) (clk rtc free : Nat) : (t.tick clk rtc free).Legal := by
  cases enabled : t.ctrl.getLsbD 0 with
  | false => rwa [Timer.tick_disabled enabled]
  | true =>
    rw [Timer.tick_enabled enabled]
    exact ⟨legal.ctrl, legal.div, Nat.mod_lt _ (Nat.succ_pos _)⟩

theorem Timer.reset_legal : Timer.reset.Legal := ⟨by decide, by decide, by decide⟩

/-! ## Reserved bits: DCSR (R558) -/

theorem dcsr_reset_legal : dcsrLegal 0x40000003 := by
  unfold dcsrLegal
  decide

theorem dcsrOf_legal (old v : Word) : dcsrLegal (dcsrOf old v) := by
  unfold dcsrLegal dcsrOf
  rw [and_or_distrib, and_or_distrib, and_and_of_disjoint v _ _ (by decide), and_and_of_disjoint old _ _ (by decide)]
  decide

/-- The cause is inside its field. -/
theorem enterDebug_dcsrLegal {s : State} (legal : dcsrLegal s.dcsr) (cause : BitVec 3) (dpc : Word) :
    dcsrLegal (s.enterDebug cause dpc).dcsr := by
  have other := (enterDebug_enters s cause dpc).otherDcsr
  unfold dcsrLegal at legal ⊢
  have narrower (w : Word) : w &&& ~~~0x89C4 = w &&& ~~~0x1C0 &&& ~~~0x89C4 := by rw [BitVec.and_assoc]; rfl
  rw [narrower, other, ← narrower, legal]

/-! ## Reserved bits: the triggers (R571 to R573) -/

theorem type_of_masked {x m : Word} {k : BitVec 4} (full : m.extractLsb' 28 4 = 0xF#4) {w : Word} (h : x &&& m = w)
    (type : w.extractLsb' 28 4 = k) : x.extractLsb' 28 4 = k := by
  subst h
  rwa [BitVec.extractLsb'_and, full, show (0xF#4 : BitVec 4) = BitVec.allOnes 4 from rfl, BitVec.and_allOnes] at type

/-- A legal MCONTROL is no ICOUNT, and the other way round. -/
theorem Trigger.Legal.cases {t : Trigger} (h : t.Legal) :
    (t.isMcontrol = true ∧ t.tdata1 &&& ~~~0x08101847 = 0x20000000) ∨
    (t.isIcount = true ∧ t.tdata1 &&& ~~~0x09FFFE01 = 0x30000000) := by
  rcases h with mcontrol | icount
  · refine .inl ⟨?_, mcontrol⟩
    simp only [Trigger.isMcontrol, Trigger.type, type_of_masked (k := 2) (by decide) mcontrol (by decide)]
    rfl
  · refine .inr ⟨?_, icount⟩
    simp only [Trigger.isIcount, Trigger.type, type_of_masked (k := 3) (by decide) icount (by decide)]
    rfl

theorem setHit_legal {t : Trigger} (h : t.Legal) : t.setHit.Legal := by
  rcases h.cases with ⟨type, fields⟩ | ⟨type, fields⟩
  · refine .inl ?_
    simp only [Trigger.setHit, type, if_true]
    rw [and_or_distrib, fields]
    decide
  · refine .inr ?_
    simp only [Trigger.setHit, isMcontrol_icount type, Bool.false_eq_true, if_false]
    rw [and_or_distrib, fields]
    decide

theorem markFired_legal {t : Trigger} (h : t.Legal) (n : Nat) : (markFired n t).Legal := by
  rcases h.cases with ⟨type, -⟩ | ⟨type, fields⟩
  · rwa [markFired, if_neg (by simp [isIcount_mcontrol type])]
  · obtain ⟨-, kept, -⟩ := markFired_icount type n
    have narrower (w : Word) : w &&& ~~~0x09FFFE01 = w &&& ~~~0x01FFFC00 &&& ~~~0x09FFFE01 := by rw [BitVec.and_assoc]; rfl
    exact .inr (by rw [narrower, kept, ← narrower, fields])

theorem bitAt_masked {b : Bool} {k : Nat} {m : Word} (h : BitVec.ofNat 32 (2 ^ k) &&& m = 0) : bitAt b k &&& m = 0 := by
  cases b
  · exact BitVec.zero_and
  · exact h

theorem mcontrolOf_reserved (chain dmode : Bool) (v : Word) : mcontrolOf chain dmode v &&& ~~~0x08101847 = 0x20000000 := by
  unfold mcontrolOf
  rw [and_or_distrib, and_or_distrib, and_or_distrib, bitAt_masked (by decide), bitAt_masked (by decide),
    and_and_of_disjoint v _ _ (by decide)]
  decide

theorem icountOf_reserved (dmode : Bool) (v : Word) :
    (0x30000000 ||| bitAt dmode 27 ||| (v &&& 0x01FFFE01)) &&& ~~~0x09FFFE01 = 0x30000000 := by
  rw [and_or_distrib, and_or_distrib, bitAt_masked (by decide), and_and_of_disjoint v _ _ (by decide)]
  decide

theorem resetAll_legal (cfg : Config) : ∀ t ∈ Trigger.resetAll cfg, t.Legal := by
  intro t ht
  have kinds : t = Trigger.resetMcontrol ∨ t = Trigger.resetIcount := by
    unfold Trigger.resetAll at ht
    split at ht
    · rcases List.mem_append.1 ht with mcontrol | icount
      · exact .inl (List.eq_of_mem_replicate mcontrol)
      · split at icount
        · exact .inr (List.mem_singleton.1 icount)
        · cases icount
    · cases ht
  rcases kinds with rfl | rfl
  · exact .inl (by decide)
  · exact .inr (by decide)

/-! ## Reserved bits: the state -/

namespace State.RegsLegal
variable {s : State}

theorem of_kernel {t : State} (hs : s.RegsLegal) (same : t.kernel = s.kernel) : t.RegsLegal := by
  simp only [State.kernel, Kernel.mk.injEq] at same
  obtain ⟨cfg, -, csr, timer, dcsr, tselect, triggers, -⟩ := same
  exact ⟨by rw [csr]; exact hs.csr, by rw [csr, cfg]; exact hs.csrIn, by rw [tselect, triggers]; exact hs.tselect,
    by rw [timer]; exact hs.timer, by rw [dcsr]; exact hs.dcsr, by rw [triggers]; exact hs.triggers⟩

theorem withCsr (hs : s.RegsLegal) {c : Csrs} (legal : c.Legal) (legalIn : c.LegalIn s.cfg) :
    ({ s with csr := c } : State).RegsLegal := { hs with csr := legal, csrIn := legalIn }

theorem withIpic (hs : s.RegsLegal) (p : Ipic) : ({ s with ipic := p } : State).RegsLegal := { hs with }

/-- Triggers replaced by as many legal ones. -/
theorem withTriggers (hs : s.RegsLegal) {ts : List Trigger} (length : ts.length = s.triggers.length)
    (legal : ∀ t ∈ ts, t.Legal) : ({ s with triggers := ts } : State).RegsLegal :=
  { hs with tselect := by rw [length]; exact hs.tselect, triggers := legal }

theorem putSelected (hs : s.RegsLegal) {t : Trigger} (legal : t.Legal) : (putSelected s t).RegsLegal :=
  hs.withTriggers List.length_set fun u hu => (List.mem_or_eq_of_mem_set hu).elim (hs.triggers u) (· ▸ legal)

theorem selected (hs : s.RegsLegal) {t : Trigger} (h : selected s = some t) : t.Legal :=
  hs.triggers t (List.mem_of_getElem? h)

theorem writeTdata1 (hs : s.RegsLegal) (v : Word) : Yields State.RegsLegal (writeTdata1 s v) := by
  unfold Machine.writeTdata1
  split
  · exact hs
  · split
    · exact hs
    · split
      · unfold writeMcontrol
        split
        · exact hs
        · split
          · trivial
          · exact hs.putSelected (.inl (mcontrolOf_reserved _ _ v))
      · split
        · unfold writeIcount
          dsimp only
          split
          · trivial
          · exact hs.putSelected (.inr (icountOf_reserved _ v))
        · exact hs

theorem writeTdata2 (hs : s.RegsLegal) (v : Word) : (writeTdata2 s v).RegsLegal := by
  unfold Machine.writeTdata2
  split
  · exact hs
  · next t found =>
    split
    · exact hs
    · exact hs.putSelected (t := { t with tdata2 := v }) (hs.selected (t := t) found)

theorem writeTselect (hs : s.RegsLegal) (v : Word) : (writeTselect s v).RegsLegal := by
  unfold Machine.writeTselect
  split
  · next inside => exact { hs with tselect := .inr inside }
  · exact hs

theorem writeMtvec (hs : s.RegsLegal) (v : Word) : Yields State.RegsLegal (writeMtvec s v) := by
  unfold Machine.writeMtvec
  split
  · trivial
  · refine hs.withCsr { hs.csr with mtvec := mtvecOf_reserved s.cfg v } { hs.csrIn with base := ?_, mode := ?_ }
    · intro k low high readOnly
      dsimp only
      rw [mtvecOf_getLsbD s.cfg v high, if_pos low, if_neg (by simp [readOnly])]
    · intro direct
      dsimp only
      rw [mtvecOf_getLsbD s.cfg v (by decide), direct]
      simp

/-- Every CSR write leaves the reserved bits as they read. -/
theorem csrWrite (hs : s.RegsLegal) (a : BitVec 12) (v : Word) : Yields State.RegsLegal (csrWrite s a v) := by
  unfold Machine.csrWrite
  split
  · exact hs.withCsr { hs.csr with mstatus := mstatusOf_reserved v } { hs.csrIn with }
  · exact hs.withCsr { hs.csr with mie := and_and_of_disjoint v _ _ (by decide) } { hs.csrIn with }
  · exact hs.writeMtvec v
  · exact hs.withCsr { hs.csr with } { hs.csrIn with }
  · exact hs.withCsr { hs.csr with mepc := mepcBits_low _ v }
      { hs.csrIn with mepc := fun noC fixed => mepcBits_bit1 noC fixed v }
  · exact hs.withCsr { hs.csr with mcause := and_and_of_disjoint v _ _ (by decide) } { hs.csrIn with }
  · exact hs.withCsr { hs.csr with } { hs.csrIn with }
  · exact hs.withCsr { hs.csr with } { hs.csrIn with }
  · exact hs.withCsr { hs.csr with } { hs.csrIn with }
  · exact hs.withCsr { hs.csr with } { hs.csrIn with }
  · exact hs.withCsr { hs.csr with } { hs.csrIn with }
  · exact hs.writeTselect v
  · exact hs.writeTdata1 v
  · exact hs.writeTdata2 v
  · exact { hs with dcsr := dcsrOf_legal s.dcsr v }
  · exact { hs with }
  · exact { hs with }
  · exact hs.withCsr { hs.csr with mcounten := and_and_of_disjoint v _ _ (by decide) } { hs.csrIn with }
  all_goals exact hs.withIpic _

theorem takeTrap (hs : s.RegsLegal) (isInt : Bool) (code : BitVec 4) (tval epc : Word) :
    (s.takeTrap isInt code tval epc).RegsLegal := by
  have legal : (s.takeTrap isInt code tval epc).csr.Legal := { hs.csr with
    mepc := mepcBits_low _ epc
    mcause := causeWord_reserved isInt code
    mstatus := (trapStatus_bits s.csr.mstatus).2.2 }
  have legalIn : (s.takeTrap isInt code tval epc).csr.LegalIn s.cfg := { hs.csrIn with
    mepc := fun noC fixed => mepcBits_bit1 noC fixed epc }
  exact ⟨legal, legalIn, hs.tselect, hs.timer, hs.dcsr, hs.triggers⟩

theorem setHits (hs : s.RegsLegal) {ms : List Bool} (length : ms.length = s.triggers.length) :
    ({ s with triggers := setHits s.triggers ms } : State).RegsLegal := by
  refine hs.withTriggers (by simp [Machine.setHits, length]) fun t ht => ?_
  obtain ⟨k, hk, rfl⟩ := List.mem_iff_getElem.1 ht
  simp only [Machine.setHits, List.getElem_zipWith]
  have legal := hs.triggers _ (List.getElem_mem (l := s.triggers) (n := k) (by simp [Machine.setHits] at hk; omega))
  split
  · exact setHit_legal legal
  · exact legal

theorem markFired (hs : s.RegsLegal) (n : Nat) : ({ s with triggers := s.triggers.map (markFired n) } : State).RegsLegal := by
  refine hs.withTriggers (by simp) fun t ht => ?_
  obtain ⟨u, hu, rfl⟩ := List.mem_map.1 ht
  exact markFired_legal (hs.triggers u hu) n

theorem tick (hs : s.RegsLegal) : s.tick.RegsLegal := by
  cases reset : s.coreReset with
  | true =>
    rw [State.tick_held reset]
    exact { hs with }
  | false =>
    unfold State.tick State.wakeUp
    rw [if_neg (by simp [reset])]
    exact { hs with csr := { hs.csr with }, csrIn := { hs.csrIn with }, timer := Timer.tick_legal hs.timer _ _ _ }

end State.RegsLegal

theorem regsLegal_invariant : Invariant State.RegsLegal where
  aside hs same := hs.of_kernel same
  counts _ hs := hs.withCsr { hs.csr with } { hs.csrIn with }
  advances {s len} _ hs := by
    unfold State.advance
    split
    · exact hs
    · exact { hs with }
  goes _ _ hs := { hs with }
  traps isInt code tval epc hs := hs.takeTrap isInt code tval epc
  returns hs := hs.withCsr { hs.csr with mstatus := (mretStatus_bits _).2.2 } { hs.csrIn with }
  writesCsr written hs := (hs.csrWrite _ _).of_next written
  stores a v n hs := by
    rw [State.store_eq]
    exact { hs with }
  writesTimer written hs := { hs with timer := timerWrite_legal written hs.timer }
  entersDebug cause dpc hs := { hs with dcsr := enterDebug_dcsrLegal hs.dcsr cause dpc }
  marksHits length hs := hs.setHits length
  marksFired n hs := hs.markFired n
  ticks hs := hs.tick
  resetsHart {s} hs := { hs with
    csr := Csrs.reset_legal s.cfg, csrIn := Csrs.reset_legalIn s.cfg, timer := Timer.reset_legal }
  resetsHdu {s} hs := { hs with tselect := .inl rfl, dcsr := dcsr_reset_legal, triggers := resetAll_legal s.cfg }

/-- Settles O39: every write takes the writable bits alone, and nothing else makes a register but a trap, a hit, a tick of the
timer and a reset. -/
theorem stepKeepsReservedBits : Obligations.StepKeepsReservedBits :=
  fun _ _ legal stepped => regsLegal_invariant.step legal stepped

/-- Settles O42: the memory is empty, and the registers hold the values that a reset gives them. -/
theorem resetStateIsLegal : Obligations.ResetStateIsLegal :=
  ⟨reset_mem_wf,
    ⟨Csrs.reset_legal _, Csrs.reset_legalIn _, .inl rfl, Timer.reset_legal, dcsr_reset_legal,
      resetAll_legal Config.rv32imcMax⟩,
    ⟨by decide, by decide⟩⟩

end Sys2Proof.Machine
end

section
/-! What a step of the hart leaves of the debugger's side: the statement on it (O41). -/
namespace Sys2Proof.Machine

/-! ## The debugger's side of the state -/

/-- The debugger's units, the configuration, the pins, and the registers that Debug Mode alone reaches. -/
structure DebugSide where
  cfg : Config
  pins : Pins
  debugMode : Bool
  dcsr : Word
  dpc : Word
  dm : Dm
  scu : Scu
  tap : Tap

def State.debugSide (s : State) : DebugSide := ⟨s.cfg, s.pins, s.debugMode, s.dcsr, s.dpc, s.dm, s.scu, s.tap⟩

/-- The debugger's side is left alone, and DCSR and DPC by a hart that keeps running. -/
structure LeavesDebugger (s t : State) : Prop where
  dm : t.dm = s.dm
  scu : t.scu = s.scu
  tap : t.tap = s.tap
  pins : t.pins = s.pins
  cfg : t.cfg = s.cfg
  running : t.debugMode = false → s.debugMode = false ∧ t.dcsr = s.dcsr ∧ t.dpc = s.dpc

namespace LeavesDebugger
variable {s t u : State}

theorem of_same (same : t.debugSide = s.debugSide) : LeavesDebugger s t := by
  simp only [State.debugSide, DebugSide.mk.injEq] at same
  obtain ⟨cfg, pins, mode, dcsr, dpc, dm, scu, tap⟩ := same
  exact ⟨dm, scu, tap, pins, cfg, fun running => ⟨mode ▸ running, dcsr, dpc⟩⟩

theorem refl (s : State) : LeavesDebugger s s := of_same rfl

theorem trans (first : LeavesDebugger s t) (second : LeavesDebugger t u) : LeavesDebugger s u where
  dm := second.dm.trans first.dm
  scu := second.scu.trans first.scu
  tap := second.tap.trans first.tap
  pins := second.pins.trans first.pins
  cfg := second.cfg.trans first.cfg
  running h := by
    obtain ⟨between, dcsr, dpc⟩ := second.running h
    obtain ⟨before, dcsr', dpc'⟩ := first.running between
    exact ⟨before, dcsr.trans dcsr', dpc.trans dpc'⟩

/-- The entry changes DCSR and DPC, and the hart no longer runs. -/
theorem enterDebug (s : State) (cause : BitVec 3) (dpc : Word) : LeavesDebugger s (s.enterDebug cause dpc) :=
  ⟨rfl, rfl, rfl, rfl, rfl, fun running => by cases running⟩

theorem enterDebug_of_same (same : t.debugSide = s.debugSide) (cause : BitVec 3) (dpc : Word) :
    LeavesDebugger s (t.enterDebug cause dpc) := (of_same same).trans (enterDebug t cause dpc)

theorem takeTrap (s : State) (isInt : Bool) (code : BitVec 4) (tval epc : Word) :
    LeavesDebugger s (s.takeTrap isInt code tval epc) := of_same rfl

theorem retire (s : State) (len : Nat) : LeavesDebugger s (s.retire len) := of_same (by simp [State.debugSide])

theorem setReg (s : State) (rd : Reg) (v : Word) : LeavesDebugger s (s.setReg rd v) := of_same (by simp [State.debugSide])

theorem tick (s : State) : LeavesDebugger s s.tick := of_same (by simp [State.debugSide])

end LeavesDebugger

/-! ## One instruction of a running hart -/

/-- A CSR write of a register that is not the debugger's. -/
theorem csrWrite_leavesDebugger {s t : State} {a : BitVec 12} {v : Word} (running : s.debugMode = false)
    (present : csrExists s a = true) (h : csrWrite s a v = .next t) : LeavesDebugger s t := by
  have frame := csrWrite_frame h
  suffices side : t.dm = s.dm ∧ t.dcsr = s.dcsr ∧ t.dpc = s.dpc from
    ⟨side.1, frame.scu, frame.tap, frame.pins, frame.cfg, fun _ => ⟨running, side.2⟩⟩
  have absent : a.toNat ≠ 0x7B0 ∧ a.toNat ≠ 0x7B1 ∧ a.toNat ≠ 0x7B2 := by
    refine ⟨?_, ?_, ?_⟩ <;> intro debug <;> simp [csrExists, debug, running] at present
  unfold csrWrite at h
  split at h
  case h_3 =>
    unfold writeMtvec at h
    split at h <;> cases h
    exact ⟨rfl, rfl, rfl⟩
  case h_12 =>
    cases h
    unfold writeTselect
    split <;> exact ⟨rfl, rfl, rfl⟩
  case h_13 => obtain rfl | ⟨y, rfl⟩ := writeTdata1_cases h <;> exact ⟨rfl, rfl, rfl⟩
  case h_14 =>
    cases h
    unfold writeTdata2
    split
    · exact ⟨rfl, rfl, rfl⟩
    · split <;> exact ⟨rfl, rfl, rfl⟩
  case h_15 dcsr => exact absurd dcsr absent.1
  case h_16 dpc => exact absurd dpc absent.2.1
  case h_17 data0 => exact absurd data0 absent.2.2
  all_goals
    cases h
    exact ⟨rfl, rfl, rfl⟩

theorem jumpTo_leavesDebugger (s : State) (rd : Reg) (len : Nat) (target : Word) :
    Yields (LeavesDebugger s) (jumpTo s rd len target) := by
  refine yields_iff.2 fun t h => ?_
  obtain ⟨-, ⟨-, rfl⟩ | ⟨-, rfl⟩⟩ := jumpTo_cases h
  · exact .takeTrap s _ _ _ _
  · exact .of_same (by simp [State.debugSide])

section
variable {s : State} (running : s.debugMode = false)
include running

theorem raise_leavesDebugger (e : Exc) (tval : Word) : Yields (LeavesDebugger s) (raise s e tval) := by
  rw [raise_running running]
  exact .takeTrap s _ _ _ _

theorem loadTo_leavesDebugger (rd : Reg) (a : Word) (n : Nat) (ext : Word → Word) (len : Nat) :
    Yields (LeavesDebugger s) (loadTo s rd a n ext len) := by
  unfold loadTo
  split
  · exact (LeavesDebugger.setReg s rd _).trans (.retire _ len)
  · exact raise_leavesDebugger running _ _
  · trivial
  · exact .of_same rfl

theorem storeTo_leavesDebugger (a : Word) (n : Nat) (v : Word) (len : Nat) :
    Yields (LeavesDebugger s) (storeTo s a n v len) := by
  unfold storeTo
  split
  · next t written =>
    have stored : LeavesDebugger s t := by
      obtain ⟨-, ⟨-, -, tm, -, rfl⟩ | ⟨-, rfl⟩⟩ := memWrite_ok written
      · exact .of_same rfl
      · rw [State.store_eq]
        exact .of_same rfl
    exact stored.trans (.retire t len)
  · exact raise_leavesDebugger running _ _
  · trivial
  · exact .of_same rfl

theorem breakpoint_leavesDebugger : Yields (LeavesDebugger s) (breakpoint s) := by
  unfold breakpoint
  split
  · exact .of_same rfl
  · split
    · exact .enterDebug s _ _
    · exact raise_leavesDebugger running _ _

theorem csrInstr_leavesDebugger (instr : Word) (rd : Reg) (a : BitVec 12) (writes plain : Bool) (new : Word → Word) :
    Yields (LeavesDebugger s) (csrInstr s instr rd a writes plain new) := by
  refine yields_iff.2 fun t h => ?_
  obtain ⟨-, raises⟩ | ⟨present, -, w, written, rfl⟩ := csrInstr_cases h
  · exact (raise_leavesDebugger running _ _).of_next raises
  · have hw : LeavesDebugger s w := by
      cases writes
      · cases written
        exact .refl s
      · exact csrWrite_leavesDebugger running present written
    have counted : LeavesDebugger w (State.countCsr s w a writes) := by
      unfold State.countCsr
      split <;> exact .of_same rfl
    exact (hw.trans counted).trans (.of_same (by simp [State.debugSide]))

/-- No instruction of a running hart reaches the debugger. -/
theorem exec_leavesDebugger (i : Instr) : Yields (LeavesDebugger s) (exec i s) := by
  have shape := exec_shape i s
  generalize exec i s = r at shape
  cases shape with
  | writeBack rd v len => exact (LeavesDebugger.setReg s rd v).trans (.retire _ len)
  | jump rd len target => exact jumpTo_leavesDebugger s rd len target
  | branch c off len =>
    cases c with
    | false => exact .retire s len
    | true => exact jumpTo_leavesDebugger s 0 len _
  | load rd a n ext len => exact loadTo_leavesDebugger running rd a n ext len
  | store a n v len => exact storeTo_leavesDebugger running a n v len
  | nop len => exact .retire s len
  | fenceI len => exact .of_same (by simp [State.debugSide])
  | wfi len =>
    have slept : LeavesDebugger s (waitForInterrupt s) := by
      unfold waitForInterrupt
      split <;> exact .of_same rfl
    exact slept.trans (.retire _ len)
  | exception e tval => exact raise_leavesDebugger running e tval
  | breakpoint => exact breakpoint_leavesDebugger running
  | trapReturn =>
    unfold State.trapReturn
    dsimp only
    split
    · trivial
    · exact .of_same rfl
  | csr instr rd a writes plain new => exact csrInstr_leavesDebugger running instr rd a writes plain new
  | refused r => trivial

theorem runWindow_leavesDebugger (w : Word) : Yields (LeavesDebugger s) (runWindow s w) := by
  unfold runWindow
  split
  · exact raise_leavesDebugger running _ _
  · exact exec_leavesDebugger running _

end

/-! ## One boundary -/

theorem checkTriggers_leavesDebugger (s : State) (d : DataAccess) :
    (checkTriggers s d).1.debugSide = s.debugSide ∧ ∀ t, (checkTriggers s d).2 = some t → LeavesDebugger s t := by
  refine ⟨rfl, fun t h => ?_⟩
  unfold checkTriggers fireAction at h
  dsimp only at h
  split at h
  · cases h
  · split at h <;> cases h
    · exact .enterDebug_of_same (by rfl) _ _
    · exact .of_same rfl

theorem runInstr_leavesDebugger {s : State} (running : s.debugMode = false) : Yields (LeavesDebugger s) (runInstr s) := by
  obtain ⟨looked, fired⟩ := checkTriggers_leavesDebugger s (upcomingAccess s)
  unfold runInstr
  split
  · next t eq => exact fired t (by rw [eq])
  · next t eq =>
    rw [eq] at looked
    have stillRunning : t.debugMode = false := (congrArg DebugSide.debugMode looked).trans running
    have after {r : Result} (h : Yields (LeavesDebugger t) r) : Yields (LeavesDebugger s) r :=
      yields_iff.2 fun u hu => (LeavesDebugger.of_same looked).trans (h.of_next hu)
    split
    · exact after (runWindow_leavesDebugger stillRunning _)
    · exact after (raise_leavesDebugger stillRunning _ _)
    · trivial
    · exact after (LeavesDebugger.of_same rfl)

theorem afterIcount_leavesDebugger (before s : State) : Yields (LeavesDebugger s) (afterIcount before s) := by
  unfold afterIcount
  split
  · exact .refl s
  · split
    · unfold icountStep
      split
      · split
        · trivial
        · exact .refl s
      · split
        · trivial
        · dsimp only
          split
          · exact .enterDebug_of_same (by rfl) _ _
          · exact .of_same rfl
    · exact .refl s

theorem afterStep_leavesDebugger (fired : Bool) (before s : State) : LeavesDebugger s (afterStep fired before s) := by
  unfold afterStep
  split
  · exact .enterDebug s _ _
  · exact .refl s

theorem runOne_leavesDebugger {s : State} (running : s.debugMode = false) : Yields (LeavesDebugger s) (runOne s) := by
  have ran := runInstr_leavesDebugger running
  unfold runOne
  split
  · next t eq =>
    have ht := ran.of_next eq
    split
    · exact ht
    · split
      · trivial
      · have counted := afterIcount_leavesDebugger s t
        split
        · next u eq => exact (ht.trans (counted.of_next eq)).trans (afterStep_leavesDebugger _ s u)
        · trivial
        · trivial
  · trivial
  · trivial

theorem honourHalt_leavesDebugger (s : State) : LeavesDebugger s (honourHalt s) := by
  unfold honourHalt
  split
  · exact .enterDebug_of_same (by rfl) _ _
  · exact .enterDebug s _ _

theorem hartStep_leavesDebugger (s : State) : Yields (LeavesDebugger s) (hartStep s) := by
  unfold hartStep
  split
  · exact .refl s
  · next held =>
    have running : s.debugMode = false := by
      cases mode : s.debugMode
      · rfl
      · simp [mode] at held
    split
    · trivial
    · split
      · exact honourHalt_leavesDebugger s
      · split
        · exact (LeavesDebugger.takeTrap s _ _ _ _).trans (afterStep_leavesDebugger _ s _)
        · split
          · exact .refl s
          · refine yields_iff.2 fun t ran => ?_
            exact LeavesDebugger.trans (t := { s with sleeping := false }) (.of_same rfl)
              ((runOne_leavesDebugger (s := { s with sleeping := false }) running).of_next ran)

/-- Settles O41: no instruction, trap, trigger or entry to Debug Mode of a hart step reaches further, and the clock does not. -/
theorem runningHartLeavesDebuggerAlone : Obligations.RunningHartLeavesDebuggerAlone := by
  intro s t inputs stepped
  rw [step_hartStep inputs] at stepped
  have left := hartStep_leavesDebugger s
  cases outcome : hartStep s with
  | fault r => rw [outcome] at stepped; cases stepped
  | refused r => rw [outcome] at stepped; cases stepped
  | next u =>
    rw [outcome] at stepped left
    cases stepped
    have all : LeavesDebugger s u.tick := LeavesDebugger.trans left (.tick u)
    exact ⟨all.dm, all.scu, all.tap, all.pins, all.cfg, fun running => (all.running running).2⟩

end Sys2Proof.Machine
end

section
/-! Division, the compressed computational instructions, targets that are misaligned without the C extension, the step of a
decoded instruction, and words of the encoding tables: the statements on them (O5, O6, O10, O33, O36, O51). -/
namespace Sys2Proof.Machine

/-! ## Division (R290, R295 to R299) -/

/-- DIV by its rule: a zero divisor, the signed overflow, the ordinary case (R295). -/
theorem divSigned_eq (a b : Word) : divSigned a b =
    if b = 0 then 0xFFFFFFFF else if a = 0x80000000 ∧ b = 0xFFFFFFFF then 0x80000000
    else BitVec.ofInt 32 (a.toInt.tdiv b.toInt) := by
  unfold divSigned
  split_ifs with zero overflow
  · rfl
  · obtain ⟨rfl, rfl⟩ := overflow
    decide
  · rfl

/-- REM by its rule (R297): in the ordinary case what the quotient leaves of the dividend. -/
theorem remSigned_eq (a b : Word) : remSigned a b =
    if b = 0 then a else if a = 0x80000000 ∧ b = 0xFFFFFFFF then 0
    else BitVec.ofInt 32 (a.toInt - b.toInt * a.toInt.tdiv b.toInt) := by
  unfold remSigned
  rw [Int.tmod_def]
  split_ifs with zero overflow
  · rfl
  · obtain ⟨rfl, rfl⟩ := overflow
    decide
  · rfl

theorem signed_identity (a b : Word) : a = b * divSigned a b + remSigned a b := by
  unfold divSigned remSigned
  split_ifs with zero
  · rw [zero, show (0 : Word) = 0#32 from rfl, BitVec.zero_mul, BitVec.zero_add]
  · calc
      a = BitVec.ofInt 32 (b.toInt * a.toInt.tdiv b.toInt + a.toInt.tmod b.toInt) := by
        rw [Int.mul_tdiv_add_tmod, BitVec.ofInt_toInt]
      _ = b * BitVec.ofInt 32 (a.toInt.tdiv b.toInt) + BitVec.ofInt 32 (a.toInt.tmod b.toInt) := by
        rw [BitVec.ofInt_add, BitVec.ofInt_mul, BitVec.ofInt_toInt]

theorem unsigned_identity (a b : Word) : a = b * divUnsigned a b + remUnsigned a b := by
  unfold divUnsigned remUnsigned
  split_ifs with zero
  · rw [zero, show (0 : Word) = 0#32 from rfl, BitVec.zero_mul, BitVec.zero_add]
  · calc
      a = BitVec.ofNat 32 (b.toNat * (a.toNat / b.toNat) + a.toNat % b.toNat) := by
        rw [Nat.div_add_mod, BitVec.ofNat_toNat, BitVec.setWidth_eq]
      _ = b * BitVec.ofNat 32 (a.toNat / b.toNat) + BitVec.ofNat 32 (a.toNat % b.toNat) := by
        rw [BitVec.ofNat_add, BitVec.ofNat_mul, BitVec.ofNat_toNat, BitVec.setWidth_eq]

/-- What two instructions write back, into registers that are not x0. -/
theorem writeBack_pair {i j : Instr} {s : State} {rq rr : Reg} {q r : Word} {P : Word → Word → Prop}
    (quotient : exec i s = writeBack s rq q 4) (remainder : exec j s = writeBack s rr r 4) (hq : rq ≠ 0) (hr : rr ≠ 0)
    (identity : P q r) : ∃ t u, exec i s = .next t ∧ exec j s = .next u ∧ P (t.getReg rq) (u.getReg rr) := by
  obtain ⟨t, ht, wrote⟩ := exec_completes quotient rfl
  obtain ⟨u, hu, wrote'⟩ := exec_completes remainder rfl
  refine ⟨t, u, ht, hu, ?_⟩
  rwa [wrote.regs, wrote'.regs, if_pos ⟨rfl, hq⟩, if_pos ⟨rfl, hr⟩]

/-- Settles O5: every form writes one result back, and quotient and remainder are those of the integers where the divisor is
not zero. -/
theorem divideResult : Obligations.DivideResult := by
  intro s rd rs1 rs2
  refine ⟨exec_completes rfl (divSigned_eq _ _), exec_completes rfl rfl, exec_completes rfl (remSigned_eq _ _),
    exec_completes rfl rfl, fun rq rr hq hr => ⟨?signed, ?unsigned⟩⟩
  case signed =>
    exact writeBack_pair (P := fun q r => s.getReg rs1 = s.getReg rs2 * q + r) rfl rfl hq hr (signed_identity _ _)
  case unsigned =>
    exact writeBack_pair (P := fun q r => s.getReg rs1 = s.getReg rs2 * q + r) rfl rfl hq hr (unsigned_identity _ _)

/-! ## Compressed computation (R151, R302 to R327) -/

/-- An operand scaled by a power of two is the field with zero bits below it, sign-extended. -/
theorem scaled_eq_append {w : Nat} (imm : BitVec w) (k : Nat) :
    BitVec.ofInt 32 (imm.toInt * 2 ^ k) = (imm ++ 0#k).signExtend 32 := by
  rw [BitVec.signExtend, BitVec.toInt_append_zero, Int.mul_comm]

theorem imm4spn_eq_append (imm : BitVec 8) : imm4spn imm = (imm ++ 0#2).setWidth 32 := by
  revert imm
  decide

/-- Settles O6: every form writes one result back, at a register and with an operand that the fields spell out. -/
theorem compressedArithmeticResult : Obligations.CompressedArithmeticResult := by
  intro s rd rs2 rdc rs2c imm8 imm shamt
  rw [← regC_eq_append, ← regC_eq_append]
  refine ⟨?addi4spn, ?addi, ?li, ?addi16sp, ?lui, ?slli, ?mv, ?add, ?srli, ?srai, ?andi, ?sub, ?xor, ?or, ?and⟩
  case addi | li | mv | add | andi | sub | xor | or | and => exact exec_completes rfl rfl
  case addi4spn => exact exec_completes rfl (congrArg (s.getReg 2 + ·) (imm4spn_eq_append imm8))
  case addi16sp => exact exec_completes rfl (congrArg (s.getReg 2 + ·) (scaled_eq_append imm 4))
  case lui => exact exec_completes rfl (scaled_eq_append imm 12)
  case slli => exact exec_completes rfl (shiftLeft_shamt _ shamt)
  case srli => exact exec_completes rfl (shiftRightL_shamt _ shamt)
  case srai => exact exec_completes rfl (shiftRightA_shamt _ shamt)

/-! ## Misaligned targets (R231) -/

/-- A taken branch to a misaligned target traps as a jump does. -/
theorem branch_misaligned {i : Instr} {s : State} {b : Bool} {off off' : Word} {len : Nat} (running : s.debugMode = false)
    (noC : s.cfg.rvc = false) (result : exec i s = branchIf s b off len) (operand : off = off')
    (misaligned : (s.pc + off').getLsbD 1 = true) (taken : b = true) :
    ∃ t, exec i s = .next t ∧ Traps s t false 0 (s.pc + off') := by
  subst operand taken
  rw [result, branchIf_taken]
  exact (jumpTo_outcome running 0 len _).2 noC misaligned

/-- Settles O10: all are `jumpTo`, whose check of the target comes first. -/
theorem misalignedTargetTraps : Obligations.MisalignedTargetTraps := by
  intro s rd rs1 rs2 off20 off imm running noC
  have offset := offset_eq_append off
  refine ⟨fun misaligned => ?jal, fun misaligned => ?jalr, fun misaligned =>
    ⟨fun c => ?beq, fun c => ?bne, fun c => ?blt, fun c => ?bge, fun c => ?bltu, fun c => ?bgeu⟩⟩
  case jal =>
    rw [← offset_eq_append] at misaligned ⊢
    exact (jumpTo_outcome running rd 4 _).2 noC misaligned
  case jalr => exact (jumpTo_outcome running rd 4 _).2 noC misaligned
  case beq => exact branch_misaligned running noC rfl offset misaligned (beq_iff_eq.2 c)
  case bne => exact branch_misaligned running noC rfl offset misaligned (bne_iff_ne.2 c)
  case blt => exact branch_misaligned running noC rfl offset misaligned ((ltSigned_iff _ _).2 c)
  case bge => exact branch_misaligned running noC rfl offset misaligned ((not_ltSigned_iff _ _).2 c)
  case bltu => exact branch_misaligned running noC rfl offset misaligned ((ltUnsigned_iff _ _).2 c)
  case bgeu => exact branch_misaligned running noC rfl offset misaligned ((not_ltUnsigned_iff _ _).2 c)

/-! ## The step of a decoded instruction, and words of the tables -/

/-- Settles O33: the window at pc decodes to what its bytes decode to. -/
theorem stepRunsDecodedInstruction : Obligations.StepRunsDecodedInstruction := by
  intro s i rest ready fetchable decoded
  obtain ⟨w, fetched, window⟩ := fetchable.fetch decoded
  exact ready.step_fetched fetched window

/-- Settles O36: each word is evaluated. -/
theorem decodesListedWords : Obligations.DecodesListedWords := by
  refine ⟨?_, ?_, ?_, ?_, ?_, ?_, ?_, ?_, ?_⟩ <;> rfl

/-- Settles O51: an instruction in Debug Mode that ends with the mark of an exception did nothing else. -/
theorem debugModeExceptionChangesNothing : Obligations.DebugModeExceptionChangesNothing :=
  fun _ _ _ halted before run raised => (exec_debugRuns halted run).raised before raised

end Sys2Proof.Machine
end

section
/-! Loads and stores: from memory, of the timer's registers and misaligned, and a load after a store: the statements on them
(O11 to O14, O16). -/
namespace Sys2Proof.Machine

/-! ## The compressed forms at their addresses (R303, R304, R322, R328) -/

theorem exec_cLw (rd rs1 : RegC) (u5 : BitVec 5) (s : State) : exec (.cLw rd rs1 u5) s =
    loadTo s (1#2 ++ rd) (s.getReg (1#2 ++ rs1) + (u5 ++ 0#2).setWidth 32) 4 noExt 2 := by
  rw [← regC_eq_append rd, ← s.effAddrC_eq rs1 u5]
  rfl

theorem exec_cSw (rs1 rs2 : RegC) (u5 : BitVec 5) (s : State) : exec (.cSw rs1 rs2 u5) s =
    storeTo s (s.getReg (1#2 ++ rs1) + (u5 ++ 0#2).setWidth 32) 4 (s.getReg (1#2 ++ rs2)) 2 := by
  rw [← regC_eq_append rs2, ← s.effAddrC_eq rs1 u5]
  rfl

theorem exec_cLwsp (rd : Reg) (u6 : BitVec 6) (s : State) :
    exec (.cLwsp rd u6) s = loadTo s rd (s.getReg 2 + (u6 ++ 0#2).setWidth 32) 4 noExt 2 := by
  rw [← s.effAddrSp_eq u6]
  rfl

theorem exec_cSwsp (rs2 : Reg) (u6 : BitVec 6) (s : State) :
    exec (.cSwsp rs2 u6) s = storeTo s (s.getReg 2 + (u6 ++ 0#2).setWidth 32) 4 (s.getReg rs2) 2 := by
  rw [← s.effAddrSp_eq u6]
  rfl

/-! ## Loads from memory (R101, R110) -/

/-- A load completes with the extended bytes, which are the value `v` that the rule names. -/
theorem load_completes {i : Instr} {s : State} {rd : Reg} {a v : Word} {n len : Nat} {ext : Word → Word}
    (result : exec i s = loadTo s rd a n ext len) (ram : RamAt s false a n)
    (value : ext (BitVec.ofNat 32 (s.bytesAt a n)) = v) : ∃ t, exec i s = .next t ∧ WritesReg s t rd v len := by
  rw [result, ← value]
  exact loadTo_ram ram rd ext len

theorem State.bytesAt_one (s : State) (a : Word) : BitVec.ofNat 32 (s.bytesAt a 1) = (s.byteAt a).setWidth 32 :=
  (s.loaded_eq_bytesAt a (size := 0) (by decide)).symm

theorem State.bytesAt_two (s : State) (a : Word) : BitVec.ofNat 32 (s.bytesAt a 2) = (s.halfAt a).setWidth 32 :=
  (s.loaded_eq_bytesAt a (size := 1) (by decide)).symm

/-- The low bits of a widened value are that value. -/
theorem extract_setWidth {w : Nat} (x : BitVec w) (hw : w ≤ 32) : (x.setWidth 32).extractLsb' 0 w = x := by
  ext i hi
  simp [show i < 32 by omega, BitVec.getLsbD_eq_getElem hi]

theorem signExt8_byte (b : Byte) : signExt8 (b.setWidth 32) = b.signExtend 32 := by
  rw [signExt8, extract_setWidth b (by decide)]

theorem signExt16_half (h : BitVec 16) : signExt16 (h.setWidth 32) = h.signExtend 32 := by
  rw [signExt16, extract_setWidth h (by decide)]

/-- Settles O11: every form is `loadTo`, and the bytes it reads are the byte, halfword or word at the address. -/
theorem loadResult : Obligations.LoadResult := by
  intro s rd rs1 rdc rs1c imm u5 u6 a ac asp
  refine ⟨fun ram => ?lb, fun ram => ?lh, fun ram => ?lw, fun ram => ?lbu, fun ram => ?lhu, fun ram => ?cLw, fun ram => ?cLwsp⟩
  case lb => exact load_completes (a := a) rfl ram (by rw [s.bytesAt_one, signExt8_byte])
  case lh => exact load_completes (a := a) rfl ram (by rw [s.bytesAt_two, signExt16_half])
  case lw => exact load_completes rfl ram (s.wordAt_eq_bytesAt a).symm
  case lbu => exact load_completes rfl ram (s.bytesAt_one a)
  case lhu => exact load_completes rfl ram (s.bytesAt_two a)
  case cLw => exact load_completes (exec_cLw rdc rs1c u5 s) ram (s.wordAt_eq_bytesAt ac).symm
  case cLwsp => exact load_completes (exec_cLwsp rd u6 s) ram (s.wordAt_eq_bytesAt asp).symm

/-! ## Stores to memory (R101, R111) -/

/-- The low `n` bytes of `v` stand at `a` of `t`, and every other byte is that of `s`. -/
structure StoresBytes (s t : State) (a v : Word) (n : Nat) : Prop where
  stored : ∀ k < n, t.byteAt (a + BitVec.ofNat 32 k) = v.extractLsb' (8 * k) 8
  other : ∀ b, (∀ k < n, b ≠ a + BitVec.ofNat 32 k) → t.byteAt b = s.byteAt b

theorem store_completes {i : Instr} {s : State} {a v : Word} {n len : Nat} (canonical : s.mem.wf) (hn : n ≤ 4)
    (result : exec i s = storeTo s a n v len) (ram : RamAt s true a n) :
    ∃ t, exec i s = .next t ∧ StoresBytes s t a v n ∧ Retires s { t with mem := s.mem, stale := s.stale } len := by
  obtain ⟨t, ht, bytes, retires⟩ := storeTo_ram ram v len
  refine ⟨t, result.trans ht, ⟨fun k hk => ?_, fun b hb => ?_⟩, retires⟩
  · rw [bytes, State.byteAt_storeBytes_same canonical a _ n k hk (by omega), ofNat_div_eq_extract]
  · rw [bytes, State.byteAt_storeBytes_other canonical a b _ n hb]

namespace StoresBytes
variable {s t : State} {a v : Word}

theorem byteAt (h : StoresBytes s t a v 1) :
    t.byteAt a = v.extractLsb' 0 8 ∧ ∀ b, b ≠ a → t.byteAt b = s.byteAt b := by
  have first := h.stored 0 (by decide)
  rw [BitVec.add_zero] at first
  refine ⟨first, fun b hb => h.other b fun k hk => ?_⟩
  obtain rfl : k = 0 := by omega
  rwa [BitVec.add_zero]

theorem halfAt (h : StoresBytes s t a v 2) :
    t.halfAt a = v.extractLsb' 0 16 ∧ ∀ b, b ≠ a → b ≠ a + 1 → t.byteAt b = s.byteAt b := by
  have low := h.stored 0 (by decide)
  have high := h.stored 1 (by decide)
  rw [BitVec.add_zero] at low
  refine ⟨?_, fun b hb hb' => h.other b fun k hk => ?_⟩
  · rw [State.halfAt, low, show t.byteAt (a + 1) = _ from high]
    apply BitVec.eq_of_toNat_eq
    rw [toNat_append_byte]
    simp only [toNat_extract]
    omega
  · interval_cases k
    · rwa [BitVec.add_zero]
    · exact hb'

theorem wordAt (h : StoresBytes s t a v 4) :
    t.wordAt a = v ∧ ∀ b, b ≠ a → b ≠ a + 1 → b ≠ a + 2 → b ≠ a + 3 → t.byteAt b = s.byteAt b := by
  have b0 := h.stored 0 (by decide)
  have b1 := h.stored 1 (by decide)
  have b2 := h.stored 2 (by decide)
  have b3 := h.stored 3 (by decide)
  rw [BitVec.add_zero] at b0
  refine ⟨?_, fun b h0 h1 h2 h3 => h.other b fun k hk => ?_⟩
  · rw [State.wordAt, b0, show t.byteAt (a + 1) = _ from b1, show t.byteAt (a + 2) = _ from b2,
      show t.byteAt (a + 3) = _ from b3]
    apply BitVec.eq_of_toNat_eq
    rw [toNat_append_byte, toNat_append_byte, toNat_append_byte]
    simp only [toNat_extract]
    omega
  · interval_cases k
    · rwa [BitVec.add_zero]
    · exact h1
    · exact h2
    · exact h3

end StoresBytes

/-- Settles O12: every form is `storeTo`, which writes the low bytes of the register one by one. -/
theorem storeResult : Obligations.StoreResult := by
  intro s rs1 rs2 rs1c rs2c imm u5 u6 canonical a ac asp words
  have storesWord {i : Instr} {at4 v : Word} {len : Nat} (result : exec i s = storeTo s at4 4 v len) : words i at4 v len := by
    intro ram
    obtain ⟨t, ht, bytes, retires⟩ := store_completes canonical (by decide) result ram
    exact ⟨t, ht, bytes.wordAt.1, bytes.wordAt.2, retires⟩
  refine ⟨fun ram => ?sb, fun ram => ?sh, storesWord rfl, storesWord (exec_cSw rs1c rs2c u5 s),
    storesWord (exec_cSwsp rs2 u6 s)⟩
  case sb =>
    obtain ⟨t, ht, bytes, retires⟩ := store_completes (i := .sb rs1 rs2 imm) canonical (by decide) rfl ram
    exact ⟨t, ht, bytes.byteAt.1, bytes.byteAt.2, retires⟩
  case sh =>
    obtain ⟨t, ht, bytes, retires⟩ := store_completes (i := .sh rs1 rs2 imm) canonical (by decide) rfl ram
    exact ⟨t, ht, bytes.halfAt.1, bytes.halfAt.2, retires⟩

/-! ## A load after a store (R101, R120) -/

theorem RamAt.of_cfg {s t : State} {store : Bool} {a : Word} {n : Nat} (h : RamAt s store a n) (cfg : t.cfg = s.cfg) :
    RamAt t store a n := by
  unfold RamAt at h ⊢
  rwa [cfg]

/-- Settles O16: the bytes that the store put there are those that the load reads, at an address that the store left as it
was. -/
theorem loadAfterStoreReturnsValue : Obligations.LoadAfterStoreReturnsValue := by
  intro s rd rs1 rs2 base imm canonical hrd a storeRam loadRam
  obtain ⟨t, ht, bytes, retires⟩ := store_completes (i := .sw rs1 rs2 imm) (a := a) canonical (by decide) rfl storeRam
  have regs (q : Reg) : t.getReg q = s.getReg q := retires.regs q
  have cfg : t.cfg = s.cfg := retires.units.cfg
  refine ⟨t, ht, ?word, fun k hbase ram => ?byte⟩
  case word =>
    have address : t.effAddr rs1 imm = a := congrArg (· + sext12 imm) (regs rs1)
    obtain ⟨u, hu, wrote⟩ := load_completes (i := .lw rd rs1 imm) (s := t) (a := a) (n := 4) (ext := noExt)
      (congrArg (loadTo t rd · 4 noExt 4) address) (loadRam.of_cfg cfg) (t.wordAt_eq_bytesAt a).symm
    refine ⟨u, hu, ?_⟩
    rw [wrote.regs, if_pos ⟨rfl, hrd⟩, bytes.wordAt.1]
  case byte =>
    have address : t.effAddr base 0 = a + BitVec.ofNat 32 k.val := by
      rw [State.effAddr, regs, hbase]
      exact BitVec.add_zero _
    obtain ⟨u, hu, wrote⟩ := load_completes (i := .lbu rd base 0) (s := t) (n := 1) (ext := noExt)
      (congrArg (loadTo t rd · 1 noExt 4) address) (ram.of_cfg cfg) (t.bytesAt_one _)
    refine ⟨u, hu, ?_⟩
    rw [wrote.regs, if_pos ⟨rfl, hrd⟩, bytes.stored k.val k.isLt]

/-! ## The timer's registers (R50 to R53, R442) -/

theorem load_timer {i : Instr} {s : State} {rd : Reg} {a v : Word} {len : Nat} (result : exec i s = loadTo s rd a 4 noExt len)
    (aligned : a.toNat % 4 = 0) (timer : inTimer s.cfg a = true) (h : s.timer.wordAt (a &&& 0x1C).toNat = some v) :
    ∃ t, exec i s = .next t ∧ WritesReg s t rd v len := by
  rw [result, loadTo, memRead_timer aligned timer, timerRead_wordAt (off := timerOffset a) h]
  exact writeBack_next s rd v len

/-- The timer stands apart from retirement. -/
theorem State.retire_withTimer (s : State) (tm : Timer) (len : Nat) :
    ({ s with timer := tm } : State).retire len = { s.retire len with timer := tm } := by
  unfold State.retire State.advance
  rw [State.countInstr_debugMode, State.countInstr_debugMode]
  split <;> rfl

theorem store_timer {i : Instr} {s : State} {a v : Word} {tm : Timer} {len : Nat} (result : exec i s = storeTo s a 4 v len)
    (aligned : a.toNat % 4 = 0) (timer : inTimer s.cfg a = true) (h : s.timer.stored (a &&& 0x1C).toNat v = some tm) :
    ∃ t, exec i s = .next t ∧ { t.timer with prescaler := s.timer.prescaler, settle := s.timer.settle } = tm ∧
      (if (a &&& 0x1C).toNat < 0x10 then t.timer.prescaler < tm.div.toNat + 1 else t.timer = tm) ∧
      Retires s { t with timer := s.timer } len := by
  have written := memWrite_timer aligned timer (timerWrite_stored _ _ (off := timerOffset a) h)
  refine ⟨_, by rw [result, storeTo, written], ?_⟩
  rw [State.retire_withTimer]
  obtain ⟨fields, ticks⟩ := Timer.unsettle_stored rfl (Timer.stored_ticks h)
  have kept : Retires s { s.retire len with timer := s.timer } len := by
    rw [← State.retire_withTimer]
    exact retire_retires s len
  exact ⟨fields, ticks, kept⟩

theorem load_hole {i : Instr} {s : State} {rd : Reg} {a : Word} {len : Nat} (result : exec i s = loadTo s rd a 4 noExt len)
    (aligned : a.toNat % 4 = 0) (timer : inTimer s.cfg a = true) (hole : a &&& 0x1C = 0x18 ∨ a &&& 0x1C = 0x1C) :
    exec i s = .refused .timerHole := by
  rw [result, loadTo, memRead_timer aligned timer, (timerOffset_hole hole s.timer 0 0 0).1]

theorem store_hole {i : Instr} {s : State} {a v : Word} {len : Nat} (result : exec i s = storeTo s a 4 v len)
    (aligned : a.toNat % 4 = 0) (timer : inTimer s.cfg a = true) (hole : a &&& 0x1C = 0x18 ∨ a &&& 0x1C = 0x1C) :
    exec i s = .refused .timerHole := by
  rw [result, storeTo, memWrite_timer_refused aligned timer (timerOffset_hole hole s.timer _ _ v).2]

/-- Settles O13: each form reads, writes or finds no register at its own address. -/
theorem timerRegisterAccess : Obligations.TimerRegisterAccess := by
  intro s rd rs1 rs2 rdc rs1c imm u5 u6
  refine ⟨?lw, ?cLw, ?cLwsp, ?sw, ?cSw, ?cSwsp, ?lwHole, ?swHole, ?cLwHole, ?cSwHole, ?cLwspHole, ?cSwspHole⟩
  case lw => exact fun aligned timer v h => load_timer rfl aligned timer h
  case cLw => exact fun aligned timer v h => load_timer (exec_cLw rdc rs1c u5 s) aligned timer h
  case cLwsp => exact fun aligned timer v h => load_timer (exec_cLwsp rd u6 s) aligned timer h
  case sw => exact fun aligned timer tm h => store_timer rfl aligned timer h
  case cSw => exact fun aligned timer tm h => store_timer (exec_cSw rs1c rdc u5 s) aligned timer h
  case cSwsp => exact fun aligned timer tm h => store_timer (exec_cSwsp rs2 u6 s) aligned timer h
  case lwHole => exact load_hole rfl
  case swHole => exact store_hole rfl
  case cLwHole => exact load_hole (exec_cLw rdc rs1c u5 s)
  case cSwHole => exact store_hole (exec_cSw rs1c rdc u5 s)
  case cLwspHole => exact load_hole (exec_cLwsp rd u6 s)
  case cSwspHole => exact store_hole (exec_cSwsp rs2 u6 s)

/-! ## Misaligned accesses (R107) -/

theorem load_misaligned {i : Instr} {s : State} {rd : Reg} {a : Word} {n len : Nat} {ext : Word → Word}
    (running : s.debugMode = false) (misaligned : a.toNat % n ≠ 0) (result : exec i s = loadTo s rd a n ext len) :
    ∃ t, exec i s = .next t ∧ Traps s t false 4 a := by
  rw [result, loadTo, memRead, if_pos misaligned]
  exact raise_traps running .loadMisaligned a

theorem store_misaligned {i : Instr} {s : State} {a v : Word} {n len : Nat} (running : s.debugMode = false)
    (misaligned : a.toNat % n ≠ 0) (result : exec i s = storeTo s a n v len) :
    ∃ t, exec i s = .next t ∧ Traps s t false 6 a := by
  rw [result, storeTo, memWrite, if_pos misaligned]
  exact raise_traps running .storeMisaligned a

/-- The low bits of an address that is aligned for `2 ^ k` bytes are zero. -/
theorem misaligned_of_low {a : Word} {k : Nat} (h : a.extractLsb' 0 k ≠ 0#k) : a.toNat % 2 ^ k ≠ 0 := by
  intro aligned
  refine h (BitVec.eq_of_toNat_eq ?_)
  rw [toNat_extract, Nat.pow_zero, Nat.div_one, aligned, BitVec.toNat_ofNat, Nat.zero_mod]

/-- Settles O14: the check of the address comes before the access. -/
theorem misalignedAccessTraps : Obligations.MisalignedAccessTraps := by
  intro s rd rs1 rs2 rdc rs1c imm u5 u6 running a ac asp
  refine ⟨fun half => ?half, fun word => ?word, fun word => ?compressed, fun word => ?stack⟩
  case half =>
    have misaligned := misaligned_of_low half
    exact ⟨load_misaligned running misaligned rfl, load_misaligned running misaligned rfl,
      store_misaligned running misaligned rfl⟩
  case word =>
    have misaligned := misaligned_of_low word
    exact ⟨load_misaligned running misaligned rfl, store_misaligned running misaligned rfl⟩
  case compressed =>
    have misaligned := misaligned_of_low word
    exact ⟨load_misaligned running misaligned (exec_cLw rdc rs1c u5 s),
      store_misaligned running misaligned (exec_cSw rs1c rdc u5 s)⟩
  case stack =>
    have misaligned := misaligned_of_low word
    exact ⟨load_misaligned running misaligned (exec_cLwsp rd u6 s),
      store_misaligned running misaligned (exec_cSwsp rs2 u6 s)⟩

end Sys2Proof.Machine
end

section
/-! MRET, WFI, interrupts and halt requests at the instruction boundary and as a reset is released: the statements on them
(O18 to O20, O32, O46). -/
namespace Sys2Proof.Machine

/-! ## MRET (R273, R424) -/

theorem execMret_running {s : State} (running : s.debugMode = false) : exec .mret s = s.trapReturn := if_neg (by simp [running])

/-- Clearing bit 0 leaves bit 1. -/
theorem clearBit0_bit1 (a : Word) : (a &&& 0xFFFFFFFE).getLsbD 1 = a.getLsbD 1 := by
  rw [BitVec.getLsbD_and]
  exact Bool.and_true _

/-- Settles O18: the check of the target comes first; the return changes MSTATUS, the count and pc. -/
theorem mretReturns : Obligations.MretReturns := by
  intro s running
  rw [execMret_running running, State.trapReturn, clearBit0_bit1]
  refine ⟨fun noC misaligned => if_pos (by simp [noC, misaligned]), fun legal => ?_⟩
  obtain ⟨mie, mpie, mpp⟩ := mretStatus_bits s.csr.mstatus
  refine ⟨_, if_neg ?_, rfl, mie, mpie, mpp, rfl, fun _ => rfl, rfl, rfl, ⟨rfl, rfl, rfl, rfl, rfl⟩,
    ⟨rfl, rfl, rfl, rfl, rfl, rfl, rfl, rfl, rfl, rfl, rfl⟩, ⟨fun _ => rfl, rfl⟩⟩
  rcases legal with rvc | aligned
  · simp [rvc]
  · simp only [aligned, Bool.and_false, Bool.false_eq_true, not_false_iff]

/-- MEPC holds an instruction address as it was (R39). -/
theorem mepcMask_of_aligned {cfg : Config} {a : Word} (h : pcAligned cfg a = true) :
    a &&& (if cfg.rvc || cfg.mepcBit1Rw then 0xFFFFFFFE else 0xFFFFFFFC) = a := by
  obtain ⟨even, aligned⟩ := pcAligned_iff.1 h
  have bit0 : ∀ k < 32, (0xFFFFFFFE : Word).getLsbD k = decide (k ≠ 0) := by decide
  have bits10 : ∀ k < 32, (0xFFFFFFFC : Word).getLsbD k = decide (2 ≤ k) := by decide
  apply BitVec.eq_of_getLsbD_eq
  intro k hk
  rw [BitVec.getLsbD_and]
  split
  · rw [bit0 k hk]
    by_cases zero : k = 0
    · subst zero
      rw [even]
      rfl
    · simp [zero]
  · next fixed =>
    have noC : cfg.rvc = false := by simp_all
    rw [noC, Bool.not_false, Bool.true_and] at aligned
    rw [bits10 k hk]
    by_cases high : 2 ≤ k
    · simp [high]
    · interval_cases k
      · rw [even]
        rfl
      · rw [aligned]
        rfl

/-- Settles O19: the trap put pc into MEPC and MIE into MPIE, from where MRET takes them. -/
theorem trapThenMretComesBack : Obligations.TrapThenMretComesBack := by
  intro s t isInt code tval running aligned traps
  have mepc : t.csr.mepc = s.pc := traps.mepc.trans (mepcMask_of_aligned aligned)
  obtain ⟨even, legal⟩ := pcAligned_iff.1 aligned
  obtain ⟨u, hu, pc, mie, -⟩ := (mretReturns t (traps.mode.debugMode.trans running)).2 (by
    rw [traps.units.cfg, mepc]
    cases rvc : s.cfg.rvc
    · rw [rvc, Bool.not_false, Bool.true_and] at legal
      exact .inr legal
    · exact .inl rfl)
  refine ⟨u, hu, ?_, mie.trans traps.mpie⟩
  have whole : s.pc &&& 0xFFFFFFFE = s.pc :=
    mepcMask_of_aligned (cfg := { s.cfg with rvc := true }) (pcAligned_iff.2 ⟨even, rfl⟩)
  rw [pc, mepc, whole]

/-! ## WFI (R274) -/

/-- The sleep stands apart from retirement. -/
theorem State.retire_withSleeping (s : State) (b : Bool) (len : Nat) :
    ({ s with sleeping := b } : State).retire len = { s.retire len with sleeping := b } := by
  unfold State.retire State.advance
  rw [State.countInstr_debugMode, State.countInstr_debugMode]
  split <;> rfl

/-- Settles O20: WFI retires, and sleeps where nothing speaks against it. -/
theorem wfiSleepsOrRetires : Obligations.WfiSleepsOrRetires := by
  intro s
  obtain ⟨nop, sleeps⟩ := waitForInterrupt_cases s
  refine ⟨fun awake => ⟨_, rfl, ?_⟩, fun running unstepped quiet => ⟨_, rfl, ?_⟩⟩
  · rw [nop awake]
    exact retire_retires s 4
  · rw [sleeps running unstepped quiet, State.retire_withSleeping]
    have kept : Retires s { s.retire 4 with sleeping := s.sleeping } 4 := by
      rw [← State.retire_withSleeping]
      exact retire_retires s 4
    exact ⟨rfl, kept⟩

/-! ## Interrupts (R413 to R415) -/

/-- A running hart takes the interrupt that qualifies, without a step or a halt request to mind. -/
theorem hartStep_interrupt {s : State} {code : BitVec 4} (noReset : s.coreReset = false) (running : s.debugMode = false)
    (noWait : s.waiting = false) (inRange : s.seqWrap = false) (noHalt : s.dm.haltreq = false) (noStep : s.stepping = false)
    (qualifies : pendingInterrupt s = some code) : hartStep s = .next (s.takeTrap true code 0 s.pc) := by
  rw [hartStep, if_neg (by simp [noReset, running, noWait]), if_neg (by simp [inRange]), if_neg (by simp [haltsNow, noHalt]),
    qualifies]
  dsimp only
  rw [afterStep_free noStep]

/-- The priority among the interrupts (R414). -/
theorem pendingInterrupt_enabled {s : State} (running : s.debugMode = false) (noStep : s.stepping = false)
    (enabled : s.csr.mstatus.getLsbD 3 = true) : pendingInterrupt s =
      if s.csr.mie.getLsbD 11 && s.meip then some 11
      else if s.csr.mie.getLsbD 3 && s.msip then some 3
      else if s.csr.mie.getLsbD 7 && s.mtip then some 7
      else none :=
  if_pos (by simp [running, enabled, State.stepMasks, noStep])

/-- Settles O32: the first of the three that qualifies is taken by the trap entry. -/
theorem interruptTakenByPriority : Obligations.InterruptTakenByPriority := by
  intro s inputs noReset running noWait inRange noHalt noStep enabled
  have priority := pendingInterrupt_enabled running noStep enabled
  have takes {code : BitVec 4} (qualifies : pendingInterrupt s = some code) :
      ∃ u : State, step s = .next u.tick ∧ Traps s u true code 0 :=
    ⟨_, by rw [step_hartStep inputs, hartStep_interrupt noReset running noWait inRange noHalt noStep qualifies]; rfl,
      takeTrap_traps s true code 0⟩
  refine ⟨fun external => takes ?_, fun noExternal software => takes ?_, fun noExternal noSoftware timer => takes ?_⟩
  · rw [priority, if_pos external]
  · rw [priority, if_neg (ne_true_of_eq_false noExternal), if_pos software]
  · rw [priority, if_neg (ne_true_of_eq_false noExternal), if_neg (ne_true_of_eq_false noSoftware), if_pos timer]

/-! ## Halt requests (R530, R540, R543) -/

/-- At the boundary, where no interrupt qualifies and no trigger can match. -/
theorem hartStep_halts {s : State} (present : s.cfg.dbgEn = true) (halt : s.dm.haltreq = true) (noReset : s.coreReset = false)
    (running : s.debugMode = false) (noWait : s.waiting = false) (inRange : s.seqWrap = false)
    (noInterrupt : pendingInterrupt s = none) (disabled : ∀ x ∈ s.triggers, x.disabled = true) :
    hartStep s = .next (s.enterDebug causeHaltreq s.pc) := by
  rw [hartStep, if_neg (by simp [noReset, running, noWait]), if_neg (by simp [inRange]),
    if_pos (by simp [haltsNow, present, halt, noInterrupt]), honourHalt,
    if_neg (by simp [debugTriggerAt_disabled disabled])]

/-- Without Power-Up Reset only the sticky bits of the SCU move. -/
theorem settleScu_eq {s : State} (noPower : s.pins.pwrup = false) :
    s.settleScu = { s with scu := { s.scu with sticky := s.scu.sticky ||| s.scuStatus } } :=
  if_neg (by simp [noPower])

/-- What the resets leave of a machine that no Core Reset holds: the SCU's sticky bits and the TAPC apart, all of it. -/
def State.released (s : State) : State :=
  { s with
    scu := { s.scu with sticky := s.scu.sticky ||| s.scuStatus }
    tap := if s.tapReset then Tap.reset else s.tap }

theorem applyResets_released {s : State} (free : s.coreReset = false) : s.applyResets = s.released := by
  obtain ⟨noPower, -, -, noControl, -, -⟩ := coreReset_false.1 free
  have noHdu : s.hduReset = false := by simp [State.hduReset, noPower, free]
  have tap : (if s.settleScu.tapReset then { s.settleScu with tap := Tap.reset } else s.settleScu) = s.released := by
    rw [settleScu_eq noPower]
    unfold State.released
    split
    · next reset => rw [if_pos (show s.tapReset = true from reset)]
    · next kept => rw [if_neg (show ¬ s.tapReset = true from kept)]
  have noDm : s.released.dmReset = false := by
    change (s.pins.pwrup || (s.scu.control.getLsbD 0 && s.scu.mode.getLsbD 0)) = false
    rw [noPower, noControl]
    rfl
  unfold State.applyResets
  dsimp only
  rw [tap, noHdu, free, noDm]
  rfl

/-- The event that releases the last reset enters Debug Mode where the halt request stands. -/
theorem step_release {s t : State} {e : HostEvent} {rest : List HostEvent} (h : s.inputs = e :: rest) (he : e ≠ .run)
    (held : s.coreReset = true) (ht : eventEffect { s with inputs := rest } e = .next t) (released : t.coreReset = false)
    (present : t.cfg.dbgEn = true) (halt : t.dm.haltreq = true) : ∃ u : State, step s = .next u.tick ∧
      u = t.released.enterDebug causeHaltreq t.pc := by
  refine ⟨_, ?_, rfl⟩
  have acts := applyResets_released released
  have out : t.released.coreReset = false := released
  have before : ({ s with inputs := rest } : State).coreReset = true := held
  rw [step_event h he, hostEvent, ht]
  dsimp only [tickResult]
  rw [State.settle, acts, if_pos]
  · rfl
  · rw [before, out]
    change (true && !false && t.cfg.dbgEn && t.dm.haltreq) = true
    rw [present, halt]
    rfl

/-- A write that asks for no resume sets the fields, a reset standing or not (R522). -/
theorem writeDmcontrol_noResume {s : State} {v : Word} (on : v.getLsbD 0 = true) (active : s.dm.dmactive = true)
    (idle : s.dm.busy = false) (stays : (v.getLsbD 30 && !v.getLsbD 31) = false) :
    writeDmcontrol s v = .next { s with dm := s.dm.controlled v } := by
  rw [writeDmcontrol, if_neg (by rw [on]; simp), if_neg (by simp [active]), if_neg (by simp [idle])]
  exact if_neg (by rw [stays]; exact Bool.false_ne_true)

/-- Settles O46: the boundary honours the request, and so does the release of the last reset, whichever event releases it. -/
theorem haltRequestEntersDebugMode : Obligations.HaltRequestEntersDebugMode := by
  intro s rest present
  refine ⟨fun halt inputs noReset running noWait inRange quiet disabled => ?boundary, fun held => ?release⟩
  case boundary =>
    have halts := hartStep_halts present halt noReset running noWait inRange (pendingInterrupt_none quiet) disabled
    exact ⟨_, by rw [step_hartStep inputs, halts]; rfl, enterDebug_enters s causeHaltreq s.pc⟩
  case release =>
    have enters {t : State} {e : HostEvent} (h : s.inputs = e :: rest) (he : e ≠ .run)
        (ht : eventEffect { s with inputs := rest } e = .next t) (released : t.coreReset = false)
        (cfg : t.cfg = s.cfg) (halt : t.dm.haltreq = true) (pc : t.pc = s.pc) (csr : t.csr = s.csr) (regs : t.regs = s.regs) :
        ∃ u : State, step s = .next u.tick ∧ u.debugMode = true ∧ u.dpc = s.pc ∧ u.dcsr.extractLsb' 6 3 = 3 ∧ u.pc = s.pc ∧
          u.csr = s.csr ∧ u.dm.haltreq = true ∧ SameRegs s u := by
      obtain ⟨u, hu, rfl⟩ := step_release h he held ht released (by rw [cfg, present]) halt
      have cause := (enterDebug_enters t.released causeHaltreq t.pc).cause
      exact ⟨_, hu, rfl, pc, cause, pc, csr, halt, State.getReg_congr regs⟩
    refine ⟨fun pin inputs halt released => ?pin, fun d inputs noTap halt released => ?scu,
      fun inputs noTap active idle released => ?dmi⟩
    case pin => exact enters inputs (by simp) rfl released rfl halt rfl rfl rfl
    case scu =>
      exact enters inputs (by simp) (eventEffect_writeControl present d rest) released rfl halt rfl rfl rfl
    case dmi =>
      let captured := ({ s with inputs := rest } : State).setDmi 0x10 (Config.freeWord s.freeCtr .dmiData)
      have written : eventEffect { s with inputs := rest } (.dmiWrite 0x10 0x80000001) =
          .next { captured with dm := s.dm.controlled 0x80000001 } := by
        have controlled : writeDmcontrol captured 0x80000001 = .next { captured with dm := s.dm.controlled 0x80000001 } :=
          writeDmcontrol_noResume (s := captured) (by decide) active idle (by decide)
        rw [← controlled]
        exact if_pos present
      exact enters inputs (by simp) written released rfl rfl rfl rfl rfl

end Sys2Proof.Machine
end

section
/-! The six CSR forms: what each makes of the old value and of the register's own write rule, and the statements on the
machine-mode registers, on the debug registers and on illegal accesses (O22 to O26, O55). -/
namespace Sys2Proof.Machine

/-! ## The six forms (R280 to R286) -/

/-- CSRRW and CSRRWI, the forms that do not look at the old value (R281, R284). -/
def CsrOp.plain (op : CsrOp) : Bool := op == .rw || op == .rwi

/-- Every form is the shared operation on its own operands. -/
theorem exec_csrOp (op : CsrOp) (rd z : BitVec 5) (a : BitVec 12) (s : State) : exec (op.instr rd z a) s =
    csrInstr s (op.instr rd z a).bits rd a (op.writes z) op.plain (fun old => op.value old (op.source s z)) := by
  cases op <;> rfl

/-- The state after a CSR instruction on `s` that has written `w`: the old value goes to `rd`, pc moves on, and MINSTRET counts
where `on` says so. -/
def State.csrDone (s w : State) (rd : Reg) (old : Word) (on : Bool) : State :=
  { w with
    regs := (s.setReg rd old).regs
    pc := s.nextPc 4
    seqWrap := s.nextWraps 4
    csr := w.csr.retired on }

theorem advance_eq (s : State) (len : Nat) : s.advance len = { s with pc := s.nextPc len, seqWrap := s.nextWraps len } := by
  unfold State.advance State.nextPc State.nextWraps
  split <;> rfl

theorem setReg_eq (s : State) (r : Reg) (v : Word) : s.setReg r v = { s with regs := (s.setReg r v).regs } := by
  unfold State.setReg
  split <;> rfl

theorem setReg_regs_congr {s t : State} (regs : t.regs = s.regs) (r : Reg) (v : Word) :
    (t.setReg r v).regs = (s.setReg r v).regs := by
  unfold State.setReg
  split
  · exact regs
  · dsimp only
    rw [regs]

/-- The end of a CSR instruction whose write left the hart's flow alone. -/
theorem csrDone_of_frame {s w : State} (frame : CsrFrame s w) (rd : Reg) (old : Word) (on : Bool) :
    ((w.countInstr on).setReg rd old).advance 4 = s.csrDone w rd old on := by
  have counted : (w.countInstr on).regs = s.regs := frame.regs
  have flow : ((w.countInstr on).setReg rd old).nextPc 4 = s.nextPc 4 ∧
      ((w.countInstr on).setReg rd old).nextWraps 4 = s.nextWraps 4 := by
    simp [State.nextPc, State.nextWraps, frame.pc, frame.seqWrap, frame.debugMode]
  rw [advance_eq, flow.1, flow.2, setReg_eq, setReg_regs_congr counted]
  rfl

/-- Where nothing was written, `rd`, pc and MINSTRET alone have changed. -/
theorem csrDone_writesReg (s : State) (rd : Reg) (old : Word) :
    WritesReg s (s.csrDone s rd old s.countsInstret) rd old 4 where
  regs q := by
    rw [← State.getReg_setReg]
    exact State.getReg_congr rfl q
  pc := rfl
  seqWrap := rfl
  csr := rfl
  sleeping := rfl
  mode := ⟨rfl, rfl, rfl, rfl, rfl⟩
  units := ⟨rfl, rfl, rfl, rfl, rfl, rfl, rfl, rfl, rfl, rfl, rfl⟩
  memory := ⟨fun _ => rfl, rfl⟩

theorem CsrFrame.refl (s : State) : CsrFrame s s := by constructor <;> rfl

section
variable {op : CsrOp} {rd z : BitVec 5} {a : BitVec 12} {s : State}

/-- A form that attempts no write (R282, R283, R285, R286). -/
theorem csrOp_reads (present : csrExists s a = true) (reads : op.writes z = false) :
    exec (op.instr rd z a) s = .next (s.csrDone s rd (csrRead s a) s.countsInstret) := by
  rw [exec_csrOp, reads, csrInstr, if_neg (by simp [present]), if_neg (by simp), if_neg (by simp),
    ← csrDone_of_frame (CsrFrame.refl s)]
  rfl

/-- A write comes to the register's own rule: the register exists and can be written, and an IPIC register by CSRRW and CSRRWI
only (R29, R280, R287). -/
structure Writable (op : CsrOp) (z : BitVec 5) (a : BitVec 12) (s : State) : Prop where
  present : csrExists s a = true
  writes : op.writes z = true
  notReadOnly : csrReadOnly a = false
  plain : (isIpicCsr a && !op.plain) = false

theorem Writable.exec_eq (h : Writable op z a s) : exec (op.instr rd z a) s =
    match csrWrite s a (op.presents s z a) with
    | .next w => .next (((State.countCsr s w a true).setReg rd (csrRead s a)).advance 4)
    | .fault f => .fault f
    | .refused r => .refused r := by
  rw [exec_csrOp, h.writes, csrInstr, if_neg (by simp [h.present]), if_neg (by simp [h.notReadOnly]),
    if_neg (by rw [Bool.true_and, h.plain]; simp)]
  rfl

theorem Writable.refused (h : Writable op z a s) {r : Refusal} (hr : csrWrite s a (op.presents s z a) = .refused r) :
    exec (op.instr rd z a) s = .refused r := by
  rw [h.exec_eq, hr]

/-- The write of a register other than MINSTRET[H]. -/
theorem Writable.next (h : Writable op z a s) {w : State} (notInstret : isMinstret a = false)
    (hw : csrWrite s a (op.presents s z a) = .next w) :
    exec (op.instr rd z a) s = .next (s.csrDone w rd (csrRead s a) s.countsInstret) := by
  have counted : State.countCsr s w a true = w.countInstr s.countsInstret := if_neg (by simp [notInstret])
  rw [h.exec_eq, hw, ← csrDone_of_frame (csrWrite_frame hw), ← counted]

/-- The write of MINSTRET[H], which may count itself (R44; log 9). -/
theorem Writable.next_minstret (h : Writable op z a s) {w : State} (instret : isMinstret a = true)
    (hw : csrWrite s a (op.presents s z a) = .next w) : exec (op.instr rd z a) s =
      .next (s.csrDone w rd (csrRead s a) (s.countsInstret && Config.minstretCountsWrite s.freeCtr)) := by
  have counted : State.countCsr s w a true =
      w.countInstr (s.countsInstret && Config.minstretCountsWrite s.freeCtr) := if_pos (by simp [instret])
  rw [h.exec_eq, hw, ← csrDone_of_frame (csrWrite_frame hw), ← counted]

/-- A write that changes nothing. -/
theorem Writable.ignored (h : Writable op z a s) (notInstret : isMinstret a = false)
    (hw : csrWrite s a (op.presents s z a) = .next s) :
    ∃ t, exec (op.instr rd z a) s = .next t ∧ WritesReg s t rd (csrRead s a) 4 :=
  ⟨_, h.next notInstret hw, csrDone_writesReg s rd _⟩

end

/-! ## The statements -/

/-- Settles O22: without a write nothing but the end of the instruction remains, and MISA and MIP ignore theirs. -/
theorem csrReadForms : Obligations.CsrReadForms := by
  intro op rd z csr s h
  have quiet (present : csrExists s csr = true) (notReadOnly : csrReadOnly csr = false) (notIpic : isIpicCsr csr = false)
      (notInstret : isMinstret csr = false) (ignores : csrWrite s csr (op.presents s z csr) = .next s) :
      ∃ t, exec (op.instr rd z csr) s = .next t ∧ WritesReg s t rd (csrRead s csr) 4 := by
    cases writes : op.writes z with
    | false => exact ⟨_, csrOp_reads present writes, csrDone_writesReg s rd _⟩
    | true => exact Writable.ignored ⟨present, writes, notReadOnly, by simp [notIpic]⟩ notInstret ignores
  rcases h with ⟨present, reads⟩ | rfl | rfl
  · exact ⟨_, csrOp_reads present reads, csrDone_writesReg s rd _⟩
  · exact quiet rfl rfl rfl rfl rfl
  · exact quiet rfl rfl rfl rfl rfl

/-- Settles O23: each register takes its writable bits, and putting the old value back leaves what a read leaves. -/
theorem trapCsrWrites : Obligations.TrapCsrWrites := by
  intro op rd z s writes v
  have writable (a : BitVec 12) (present : csrExists s a = true) (notReadOnly : csrReadOnly a = false)
      (notIpic : isIpicCsr a = false) : Writable op z a s := ⟨present, writes, notReadOnly, by simp [notIpic]⟩
  have kept (old : Word) := csrDone_writesReg s rd old
  refine ⟨?mstatus, ?mie, ?mscratch, ?mepc, ?mcause, ?mtval, fun present => ?mcounten⟩
  case mstatus => exact ⟨_, (writable 0x300 rfl rfl rfl).next rfl rfl, rfl, kept _⟩
  case mie => exact ⟨_, (writable 0x304 rfl rfl rfl).next rfl rfl, rfl, kept _⟩
  case mscratch => exact ⟨_, (writable 0x340 rfl rfl rfl).next rfl rfl, rfl, kept _⟩
  case mepc =>
    refine ⟨_, (writable 0x341 rfl rfl rfl).next rfl rfl, ?_, kept _⟩
    change mepcBits s.cfg (v 0x341) = _
    unfold mepcBits
    split <;> rfl
  case mcause => exact ⟨_, (writable 0x342 rfl rfl rfl).next rfl rfl, rfl, kept _⟩
  case mtval => exact ⟨_, (writable 0x343 rfl rfl rfl).next rfl rfl, rfl, kept _⟩
  case mcounten => exact ⟨_, (writable 0x7E0 present rfl rfl).next rfl rfl, rfl, kept _⟩

/-- Settles O24: `mtvecOf` bit by bit, where MODE is 0 or 1. -/
theorem mtvecWrite : Obligations.MtvecWrite := by
  intro op rd z s writes v
  have writable : Writable op z 0x305 s := ⟨rfl, writes, rfl, rfl⟩
  have rule : csrWrite s 0x305 v = writeMtvec s v := rfl
  refine ⟨fun vectored reserved => ?_, fun legal => ?_⟩
  · exact writable.refused (rule.trans (if_pos (by rw [vectored, reserved]; rfl)))
  · have stored : csrWrite s 0x305 v = .next { s with csr := { s.csr with mtvec := mtvecOf s.cfg v } } := by
      refine rule.trans (if_neg ?_)
      rcases legal with direct | low
      · simp [direct]
      · simp only [low, Bool.and_false, Bool.false_eq_true, not_false_iff]
    refine ⟨_, writable.next rfl stored, fun k low high => ?_, ?_, ?_, csrDone_writesReg s rd _⟩
    · exact (mtvecOf_getLsbD s.cfg v high).trans (if_pos low)
    · change (mtvecOf s.cfg v).extractLsb' 1 5 = 0
      apply BitVec.eq_of_getLsbD_eq
      intro k hk
      rw [BitVec.getLsbD_extractLsb', mtvecOf_getLsbD s.cfg v (by omega), if_neg (by omega),
        decide_eq_false (show ¬ 1 + k = 0 by omega)]
      simp
    · exact (mtvecOf_getLsbD s.cfg v (k := 0) (by decide)).trans (by simp)

/-- Settles O25: each half is written alone, and what MINSTRET then counts is put back with it. -/
theorem counterWrites : Obligations.CounterWrites := by
  intro op rd z s writes counters v lo hi cycle instret
  have writable (a : BitVec 12) (present : csrExists s a = true) (notReadOnly : csrReadOnly a = false)
      (notIpic : isIpicCsr a = false) : Writable op z a s := ⟨present, writes, notReadOnly, by simp [notIpic]⟩
  have kept (old : Word) := csrDone_writesReg s rd old
  have counts (new : BitVec 64) : let on := s.countsInstret && Config.minstretCountsWrite s.freeCtr
      ((if on then new + 1 else new) = new ∨ (if on then new + 1 else new) = new + 1) ∧
      (s.countsInstret = false → (if on then new + 1 else new) = new) := by
    dsimp only
    refine ⟨?_, fun off => if_neg (by simp [off])⟩
    split
    · exact .inr rfl
    · exact .inl rfl
  have cycleWritten {a : BitVec 12} {new : BitVec 64} (old : Word) (written : Writable op z a s) (other : isMinstret a = false)
      (hw : csrWrite s a (v a) = .next { s with csr := { s.csr with mcycle := new } }) (hold : csrRead s a = old) :
      cycle a new old := by
    subst hold
    exact ⟨_, written.next other hw, rfl, kept _⟩
  have instretWritten {a : BitVec 12} {new : BitVec 64} (old : Word) (written : Writable op z a s)
      (itself : isMinstret a = true) (hw : csrWrite s a (v a) = .next { s with csr := { s.csr with minstret := new } })
      (hold : csrRead s a = old) : instret a new old := by
    subst hold
    exact ⟨_, written.next_minstret itself hw, (counts new).1, (counts new).2, kept _⟩
  refine ⟨?mcycle, ?mcycleh, ?minstret, ?minstreth⟩
  case mcycle =>
    refine cycleWritten _ (writable 0xB00 counters rfl rfl) rfl ?_ rfl
    rw [← setLo64_eq]
    rfl
  case mcycleh =>
    refine cycleWritten _ (writable 0xB80 counters rfl rfl) rfl ?_ rfl
    rw [← setHi64_eq]
    rfl
  case minstret =>
    refine instretWritten _ (writable 0xB02 counters rfl rfl) rfl ?_ rfl
    rw [← setLo64_eq]
    rfl
  case minstreth =>
    refine instretWritten _ (writable 0xB82 counters rfl rfl) rfl ?_ rfl
    rw [← setHi64_eq]
    rfl

/-- The instruction word of a CSR form. -/
theorem csrOp_bits (op : CsrOp) (rd z : BitVec 5) (a : BitVec 12) : (op.instr rd z a).bits = encode32 (op.instr rd z a) := by
  cases op <;> rfl

/-- Settles O26: both checks come before the access. -/
theorem illegalCsrAccessTraps : Obligations.IllegalCsrAccessTraps := by
  intro op rd z csr s running illegal
  have raises : exec (op.instr rd z csr) s = raise s .illegal (op.instr rd z csr).bits := by
    rw [exec_csrOp, csrInstr]
    rcases illegal with absent | ⟨writes, readOnly⟩
    · exact if_pos (by rw [absent]; rfl)
    · split
      · rfl
      · exact if_pos (by rw [writes, csrReadOnly, readOnly]; rfl)
  rw [raises, csrOp_bits]
  exact raise_traps running .illegal _

/-- Settles O55: the three registers exist in Debug Mode, each with its own write rule. -/
theorem debugCsrWrites : Obligations.DebugCsrWrites := by
  intro op rd z s writes present halted
  have reached : (s.cfg.dbgEn && s.debugMode) = true := by rw [present, halted]; rfl
  have kept (old : Word) := csrDone_writesReg s rd old
  refine ⟨?dcsr, ?dpc, ?dscratch0⟩
  case dcsr => exact ⟨_, Writable.next (a := 0x7B0) ⟨reached, writes, rfl, rfl⟩ rfl rfl, rfl, kept _⟩
  case dpc => exact ⟨_, Writable.next (a := 0x7B1) ⟨reached, writes, rfl, rfl⟩ rfl rfl, rfl, kept _⟩
  case dscratch0 => exact ⟨_, Writable.next (a := 0x7B2) ⟨reached, writes, rfl, rfl⟩ rfl rfl, rfl, kept _⟩

end Sys2Proof.Machine
end

section
/-! The interrupt controller: the lowest vector of a set, the bits that each write moves, and the statements on reads, on the
start and the end of an interrupt, and on the other writes (O27 to O29). -/
namespace Sys2Proof

/-! ## The lowest vector (R461) -/

theorem lowest_eq_void {x : BitVec 16} (h : x = 0) : lowest x = 16 := by
  subst h
  rfl

theorem lowest_spec {x : BitVec 16} (h : x ≠ 0) :
    lowest x < 16 ∧ x.getLsbD (lowest x) = true ∧ ∀ j < lowest x, x.getLsbD j = false := by
  cases found : (List.range 16).find? (fun v => x.getLsbD v) with
  | none =>
    refine absurd (BitVec.eq_of_getLsbD_eq fun k hk => ?_) h
    simpa using List.find?_eq_none.1 found k (List.mem_range.2 hk)
  | some v =>
    have value : lowest x = v := by rw [lowest, found]
    obtain ⟨bit, inside, below⟩ := List.find?_range_eq_some.1 found
    rw [value]
    exact ⟨List.mem_range.1 inside, bit, fun j hj => by simpa using below j hj⟩

theorem lowest_le (x : BitVec 16) : lowest x ≤ 16 := by
  by_cases empty : x = 0
  · exact (lowest_eq_void empty).le
  · exact (lowest_spec empty).1.le

theorem not_mem_below_lowest {x : BitVec 16} {j : Nat} (h : j < lowest x) : x.getLsbD j = false := by
  by_cases empty : x = 0
  · simp [empty]
  · exact (lowest_spec empty).2.2 j h

theorem lowest_le_of_mem {x : BitVec 16} {v : Nat} (h : x.getLsbD v = true) : lowest x ≤ v := by
  by_contra below
  rw [not_mem_below_lowest (Nat.lt_of_not_le below)] at h
  cases h

/-- The lowest vector is the one below which there is none. -/
theorem lowest_eq_of {x : BitVec 16} {v : Nat} (mem : x.getLsbD v = true) (below : ∀ j < v, x.getLsbD j = false) :
    lowest x = v := by
  refine Nat.le_antisymm (lowest_le_of_mem mem) (Nat.le_of_not_lt fun lower => ?_)
  have nonempty : x ≠ 0 := by
    rintro rfl
    simp at mem
  have bit := (lowest_spec nonempty).2.1
  rw [below _ lower] at bit
  cases bit

/-! ## The bits of a vector (R464 to R475) -/

theorem vecBit_getLsbD {v k : Nat} (hk : k < 16) : (vecBit v).getLsbD k = (k == v) := by
  unfold vecBit
  split
  · rw [BitVec.getLsbD_ofNat, decide_eq_true hk, Bool.true_and, Nat.testBit_two_pow]
    by_cases same : v = k
    · simp [same]
    · simp [same, Ne.symm same]
  · simp
    omega

theorem putBit_getLsbD (x : BitVec 16) {v k : Nat} (hk : k < 16) (b : Bool) :
    (putBit x v b).getLsbD k = if k = v then b else x.getLsbD k := by
  cases b
  · rw [putBit, if_neg (by simp), BitVec.getLsbD_and, BitVec.getLsbD_not, vecBit_getLsbD hk]
    by_cases same : k = v <;> simp [same, hk]
  · rw [putBit, if_pos rfl, BitVec.getLsbD_or, vecBit_getLsbD hk]
    by_cases same : k = v <;> simp [same]

/-- Putting a vector into a set, and taking it out. -/
theorem or_vecBit_getLsbD (x : BitVec 16) {v k : Nat} (hk : k < 16) : (x ||| vecBit v).getLsbD k = (x.getLsbD k || k == v) := by
  rw [BitVec.getLsbD_or, vecBit_getLsbD hk]

theorem and_not_vecBit_getLsbD (x : BitVec 16) {v k : Nat} (hk : k < 16) :
    (x &&& ~~~(vecBit v)).getLsbD k = (x.getLsbD k && k != v) := by
  rw [BitVec.getLsbD_and, BitVec.getLsbD_not, vecBit_getLsbD hk, decide_eq_true hk, Bool.true_and]
  rfl

theorem clearPending_ip (p : Ipic) (set : BitVec 16) {k : Nat} (hk : k < 16) :
    (p.clearPending set).ip.getLsbD k = (p.ip.getLsbD k && !(set.getLsbD k && p.im.getLsbD k)) := by
  simp only [Ipic.clearPending, BitVec.getLsbD_and, BitVec.getLsbD_not, decide_eq_true hk, Bool.true_and]

/-- The pending bits once bit 0 of a write has asked, or not, to clear the one of vector `v`. -/
def Ipic.pendingCleared (p : Ipic) (ask : Bool) (v : Nat) : BitVec 16 :=
  if ask then (p.clearPending (vecBit v)).ip else p.ip

theorem pendingCleared_getLsbD (p : Ipic) (ask : Bool) {v k : Nat} (hk : k < 16) :
    (p.pendingCleared ask v).getLsbD k = (p.ip.getLsbD k && !(k == v && ask && p.im.getLsbD k)) := by
  cases ask
  · simp [Ipic.pendingCleared]
  · rw [Ipic.pendingCleared, if_pos rfl, clearPending_ip p _ hk, vecBit_getLsbD hk, Bool.and_true]

theorem Ipic.writeCicsr_eq {p : Ipic} (inService : p.cisv ≠ voidVector) (v : Word) : p.writeCicsr v =
    { p with ie := putBit p.ie p.cisv (v.getLsbD 1), ip := p.pendingCleared (v.getLsbD 0) p.cisv } := by
  rw [Ipic.writeCicsr, if_neg inService, Ipic.pendingCleared]
  split <;> rfl

theorem Ipic.writeIcsr_eq (p : Ipic) (v : Word) : p.writeIcsr v =
    { p with
      ie := putBit p.ie p.idx.toNat (v.getLsbD 1)
      im := putBit p.im p.idx.toNat (v.getLsbD 2)
      inv := putBit p.inv p.idx.toNat (v.getLsbD 3)
      isv := putBit p.isv p.idx.toNat (v.getLsbD 4)
      ip := { p with im := putBit p.im p.idx.toNat (v.getLsbD 2) }.pendingCleared (v.getLsbD 0) p.idx.toNat } := by
  rw [Ipic.writeIcsr, Ipic.pendingCleared]
  split <;> rfl

/-! ## Start and end of an interrupt (R470, R471, R476, R479) -/

section
variable {p : Ipic} (starts : p.candidate < p.cisv)
include starts

theorem Ipic.soi_starts :
    p.soi = { p with isv := p.isv ||| vecBit p.candidate }.clearPending (vecBit p.candidate) := if_pos starts

theorem Ipic.soi_isv : p.soi.isv = p.isv ||| vecBit p.candidate := by rw [Ipic.soi_starts starts]; rfl

theorem Ipic.candidate_lt : p.candidate < 16 := Nat.lt_of_lt_of_le starts (lowest_le _)

theorem Ipic.soi_ip_getLsbD {k : Nat} (hk : k < 16) :
    p.soi.ip.getLsbD k = (p.ip.getLsbD k && !(k == p.candidate && p.im.getLsbD k)) := by
  rw [Ipic.soi_starts starts, clearPending_ip _ _ hk, vecBit_getLsbD hk]

/-- The vector in service is the one that started. -/
theorem Ipic.soi_cisv : p.soi.cisv = p.candidate := by
  have inside := Ipic.candidate_lt starts
  rw [Ipic.cisv, Ipic.soi_isv starts]
  refine lowest_eq_of (by rw [or_vecBit_getLsbD _ inside]; simp) fun j hj => ?_
  rw [or_vecBit_getLsbD _ (by omega), not_mem_below_lowest (Nat.lt_trans hj starts)]
  simp
  omega

/-- The end of the interrupt restores the vectors in service. -/
theorem Ipic.soi_eoi_isv : p.soi.eoi.isv = p.isv := by
  rw [Ipic.eoi, Ipic.soi_cisv starts, Ipic.soi_isv starts]
  apply BitVec.eq_of_getLsbD_eq
  intro k hk
  rw [and_not_vecBit_getLsbD _ hk, or_vecBit_getLsbD _ hk]
  by_cases started : k = p.candidate
  · have free : p.isv.getLsbD k = false := not_mem_below_lowest (started ▸ starts)
    rw [free, beq_iff_eq.2 started, started, bne_self_eq_false, Bool.and_false]
  · rw [beq_eq_false_iff_ne.2 started, bne_iff_ne.2 started, Bool.or_false, Bool.and_true]

/-- No pending vector is lower than the one that started. -/
theorem Ipic.soi_candidate : p.candidate ≤ p.soi.candidate := by
  by_contra lower
  have nonempty : p.soi.ip &&& p.soi.ie ≠ 0 := by
    intro empty
    have void : p.soi.candidate = 16 := lowest_eq_void empty
    have := Ipic.candidate_lt starts
    omega
  obtain ⟨inside, found, -⟩ := lowest_spec nonempty
  change p.soi.candidate < 16 at inside
  change (p.soi.ip &&& p.soi.ie).getLsbD p.soi.candidate = true at found
  have before : ∀ k < 16, (p.soi.ip &&& p.soi.ie).getLsbD k = true → (p.ip &&& p.ie).getLsbD k = true := by
    intro k hk
    have ie : p.soi.ie = p.ie := by rw [Ipic.soi_starts starts]; rfl
    rw [ie, Ipic.soi_starts starts, BitVec.getLsbD_and, BitVec.getLsbD_and, clearPending_ip _ _ hk]
    simp only [Bool.and_eq_true]
    exact fun ⟨⟨pending, _⟩, enabled⟩ => ⟨pending, enabled⟩
  exact lower (lowest_le_of_mem (before _ inside found))

end

theorem Ipic.soi_request (p : Ipic) : p.soi.request = false := by
  by_cases starts : p.candidate < p.cisv
  · rw [Ipic.request, Ipic.soi_cisv starts]
    exact decide_eq_false (Nat.not_lt.2 (Ipic.soi_candidate starts))
  · rw [Ipic.soi, if_neg starts]
    exact decide_eq_false starts

end Sys2Proof

namespace Sys2Proof.Machine

/-! ## Reads (R466 to R473) -/

theorem b2n_eq_toNat (b : Bool) : b2n b = b.toNat := by cases b <;> rfl

theorem toNat_append_bool {n : Nat} (x : BitVec n) (b : Bool) : (x ++ BitVec.ofBool b).toNat = 2 * x.toNat + b2n b := by
  rw [toNat_append_eq_add, BitVec.toNat_ofBool, b2n_eq_toNat, Nat.pow_one, Nat.mul_comm]

/-- IPIC_CICSR as its fields (R467). -/
theorem readCicsr_eq (p : Ipic) : p.readCicsr = if lowest p.isv = 16 then 0
    else (BitVec.ofBool (p.ie.getLsbD (lowest p.isv)) ++ BitVec.ofBool (p.ip.getLsbD (lowest p.isv))).setWidth 32 := by
  unfold Ipic.readCicsr Ipic.cisv voidVector
  split
  · rfl
  · apply BitVec.eq_of_toNat_eq
    rw [BitVec.toNat_setWidth, toNat_append_bool, BitVec.toNat_ofBool, ← b2n_eq_toNat, BitVec.toNat_ofNat, Nat.mul_comm]

/-- IPIC_ICSR as its fields (R473). -/
theorem readIcsr_eq (p : Ipic) : p.readIcsr =
    (p.idx ++ 0b0011#4 ++ 0b000#3 ++ BitVec.ofBool (p.isv.getLsbD p.idx.toNat) ++ BitVec.ofBool (p.inv.getLsbD p.idx.toNat)
      ++ BitVec.ofBool (p.im.getLsbD p.idx.toNat) ++ BitVec.ofBool (p.ie.getLsbD p.idx.toNat)
      ++ BitVec.ofBool (p.ip.getLsbD p.idx.toNat)).setWidth 32 := by
  apply BitVec.eq_of_toNat_eq
  simp only [Ipic.readIcsr, BitVec.toNat_setWidth, BitVec.toNat_ofNat, BitVec.toNat_ofBool, toNat_append_eq_add, b2n_eq_toNat]
  omega

theorem csrRead_ipic (s : State) {a : BitVec 12} {k : Nat} (ha : a.toNat = 0xBF0 + k) (hk : k < 8) :
    csrRead s a = s.ipic.read k := by
  unfold csrRead
  interval_cases k <;> simp only [ha, Nat.add_sub_cancel_left]

/-- Settles O27: each register is read as its fields, and `lowest` finds the first set bit. -/
theorem ipicReads : Obligations.IpicReads := by
  refine ⟨fun s => ⟨?cisv, ?cicsr, ?ipr, ?isvr, ?eoi, ?soi, ?idx, ?icsr⟩, fun _ => ⟨lowest_eq_void, lowest_spec⟩⟩
  case cisv => exact csrRead_ipic s (k := 0) rfl (by decide)
  case cicsr => exact (csrRead_ipic s (k := 1) rfl (by decide)).trans (readCicsr_eq s.ipic)
  case ipr => exact csrRead_ipic s (k := 2) rfl (by decide)
  case isvr => exact csrRead_ipic s (k := 3) rfl (by decide)
  case eoi => exact csrRead_ipic s (k := 4) rfl (by decide)
  case soi => exact csrRead_ipic s (k := 5) rfl (by decide)
  case idx => exact csrRead_ipic s (k := 6) rfl (by decide)
  case icsr => exact (csrRead_ipic s (k := 7) rfl (by decide)).trans (readIcsr_eq s.ipic)

/-! ## Writes (R464 to R473) -/

section
variable {op : CsrOp} {rd z : BitVec 5} {a : BitVec 12} {s : State}

theorem csrExists_ipic (present : s.cfg.ipicEn = true) (low : 0xBF0 ≤ a.toNat) (high : a.toNat ≤ 0xBF7) :
    csrExists s a = true :=
  (csrExists_iff s a).2 (.inr (.inr (.inr (.inr (.inr ⟨low, high, present⟩)))))

theorem csrReadOnly_ipic (low : 0xBF0 ≤ a.toNat) (high : a.toNat ≤ 0xBF7) : csrReadOnly a = false := by
  unfold csrReadOnly
  rw [beq_eq_false_iff_ne, ne_eq, BitVec.toNat_eq, toNat_extract]
  change ¬ a.toNat / 1024 % 4 = 3
  omega

theorem csrWrite_ipic (s : State) {k : Nat} (ha : a.toNat = 0xBF0 + k) (hk : k < 8) (v : Word) :
    csrWrite s a v = .next { s with ipic := s.ipic.write k v } := by
  unfold csrWrite
  interval_cases k <;> simp only [ha, Nat.add_sub_cancel_left]

/-- CSRRW and CSRRWI write the source operand to the register at the offset, and nothing else changes. -/
theorem ipic_written (plain : op = .rw ∨ op = .rwi) (present : s.cfg.ipicEn = true) {k : Nat} (ha : a.toNat = 0xBF0 + k)
    (hk : k < 8) :
    ∃ t, exec (op.instr rd z a) s = .next t ∧ t.ipic = s.ipic.write k (op.source s z) ∧
      WritesReg s { t with ipic := s.ipic } rd (s.ipic.read k) 4 := by
  have forms : op.writes z = true ∧ op.plain = true ∧ op.presents s z a = op.source s z := by
    rcases plain with rfl | rfl <;> exact ⟨rfl, rfl, rfl⟩
  obtain ⟨writes, isPlain, presents⟩ := forms
  have writable : Writable op z a s :=
    ⟨csrExists_ipic present (by omega) (by omega), writes, csrReadOnly_ipic (by omega) (by omega), by rw [isPlain]; simp⟩
  have notInstret : isMinstret a = false := by
    rw [isMinstret, Bool.or_eq_false_iff, beq_eq_false_iff_ne, beq_eq_false_iff_ne]
    omega
  have run := writable.next (rd := rd) notInstret (csrWrite_ipic s ha hk (op.presents s z a))
  rw [presents, csrRead_ipic s ha hk] at run
  exact ⟨_, run, rfl, csrDone_writesReg s rd _⟩

/-- A write that the controller ignores. -/
theorem State.withIpic_self {s t : State} (same : t.ipic = s.ipic) : { t with ipic := s.ipic } = t := by
  rw [← same]

theorem ipic_set_or_clear_refused (setOrClear : op.plain = false) (writes : op.writes z = true) (present : s.cfg.ipicEn = true)
    (low : 0xBF0 ≤ a.toNat) (high : a.toNat ≤ 0xBF7) : exec (op.instr rd z a) s = .refused .ipicSetClear := by
  have isIpic : isIpicCsr a = true := decide_eq_true ⟨low, high⟩
  rw [exec_csrOp, csrInstr, csrExists_ipic present low high, csrReadOnly_ipic low high, isIpic, setOrClear, writes]
  rfl

end

/-- Settles O28: a start adds the lowest pending vector, which is below all in service, so the end finds it again. -/
theorem startAndEndOfInterrupt : Obligations.StartAndEndOfInterrupt := by
  refine ⟨fun op rd z s plain present => ⟨?soi, ?eoi⟩, fun p => ⟨p.soi_request, fun starts => ?nest⟩⟩
  case soi =>
    obtain ⟨t, run, written, frame⟩ := ipic_written (rd := rd) (z := z) (a := 0xBF5) plain present (k := 5) rfl (by decide)
    change t.ipic = s.ipic.soi at written
    refine ⟨t, run, ?_, ?_, frame⟩ <;> rw [written]
    · intro starts
      refine ⟨fun v hv => ?_, fun v hv => Ipic.soi_ip_getLsbD starts hv, by rw [Ipic.soi_starts starts]; rfl⟩
      rw [Ipic.soi_isv starts]
      exact or_vecBit_getLsbD _ hv
    · exact fun stays => if_neg stays
  case eoi =>
    obtain ⟨t, run, written, frame⟩ := ipic_written (rd := rd) (z := z) (a := 0xBF4) plain present (k := 4) rfl (by decide)
    refine ⟨t, run, ?_, by rw [written]; rfl, frame⟩
    intro v hv
    rw [written]
    exact and_not_vecBit_getLsbD s.ipic.isv hv
  case nest =>
    have ends := Ipic.soi_eoi_isv starts
    exact ⟨Ipic.soi_cisv starts, ends, congrArg lowest ends⟩

/-- Settles O29: each register's own rule on the bits of the vectors. -/
theorem ipicRegisterWrites : Obligations.IpicRegisterWrites := by
  intro op rd z s plain present
  have rule {a : BitVec 12} {k : Nat} := ipic_written (rd := rd) (z := z) (a := a) (k := k) plain present
  refine ⟨?icsr, ?idx, ?ipr, ?cicsr, ?cisv, ?isvr, ?setOrClear⟩
  case icsr =>
    obtain ⟨t, run, written, frame⟩ := rule (a := 0xBF7) (k := 7) rfl (by decide)
    change t.ipic = s.ipic.writeIcsr _ at written
    rw [Ipic.writeIcsr_eq] at written
    refine ⟨t, run, ?_, ?_, ?_, ?_, ?_, ?_, ?_, frame⟩ <;> rw [written]
    · exact fun v hv => putBit_getLsbD _ hv _
    · exact fun v hv => putBit_getLsbD _ hv _
    · exact fun v hv => putBit_getLsbD _ hv _
    · exact fun v hv => putBit_getLsbD _ hv _
    · intro v hv
      refine (pendingCleared_getLsbD _ _ hv).trans ?_
      dsimp only
      rw [putBit_getLsbD _ hv]
      by_cases asked : v = s.ipic.idx.toNat
      · rw [if_pos asked]
      · rw [beq_eq_false_iff_ne.2 asked, Bool.false_and, Bool.false_and, Bool.false_and]
  case idx =>
    obtain ⟨t, run, written, frame⟩ := rule (a := 0xBF6) (k := 6) rfl (by decide)
    exact ⟨t, run, written, frame⟩
  case ipr =>
    obtain ⟨t, run, written, frame⟩ := rule (a := 0xBF2) (k := 2) rfl (by decide)
    refine ⟨t, run, fun v hv => ?_, by rw [written]; rfl, frame⟩
    rw [written]
    refine (clearPending_ip s.ipic _ hv).trans ?_
    rw [BitVec.getLsbD_extractLsb', decide_eq_true hv, Nat.zero_add, Bool.true_and]
  case cicsr =>
    obtain ⟨t, run, written, frame⟩ := rule (a := 0xBF1) (k := 1) rfl (by decide)
    change t.ipic = s.ipic.writeCicsr _ at written
    refine ⟨t, run, ⟨?_, ?_⟩, frame⟩ <;> rw [written]
    · exact fun void => if_pos void
    · intro inService
      rw [Ipic.writeCicsr_eq (Nat.ne_of_lt inService)]
      exact ⟨fun v hv => putBit_getLsbD _ hv _, fun v hv => pendingCleared_getLsbD _ _ hv, rfl⟩
  case cisv =>
    obtain ⟨t, run, written, frame⟩ := rule (a := 0xBF0) (k := 0) rfl (by decide)
    rw [State.withIpic_self written] at frame
    exact ⟨t, run, frame⟩
  case isvr =>
    obtain ⟨t, run, written, frame⟩ := rule (a := 0xBF3) (k := 3) rfl (by decide)
    rw [State.withIpic_self written] at frame
    exact ⟨t, run, frame⟩
  case setOrClear =>
    intro q csr low high notRw notRwi nonzero
    have forms : q.plain = false ∧ q.writes z = true := by
      cases q
      case rw => exact absurd rfl notRw
      case rwi => exact absurd rfl notRwi
      all_goals exact ⟨rfl, bne_iff_ne.2 nonzero⟩
    exact ipic_set_or_clear_refused forms.1 forms.2 present low high

end Sys2Proof.Machine
end

section
/-! The registers of the triggers: what a write stores, refuses or ignores, in the words of the fields, and the statement on
them (O54). -/
namespace Sys2Proof.Machine

/-! ## The fields of the neighbours, and what a write presents (R571, R572, R578) -/

theorem isMcontrol_iff (x : Trigger) : x.isMcontrol = true ↔ x.tdata1.extractLsb' 28 4 = 2#4 := by
  rw [Trigger.isMcontrol, Trigger.type, beq_iff_eq, BitVec.toNat_eq]
  rfl

theorem isIcount_iff (x : Trigger) : x.isIcount = true ↔ x.tdata1.extractLsb' 28 4 = 3#4 := by
  rw [Trigger.isIcount, Trigger.type, beq_iff_eq, BitVec.toNat_eq]
  rfl

theorem nextIsMcontrol_iff (s : State) : nextIsMcontrol s = true ↔
    ∃ y, s.triggers[s.tselect.toNat + 1]? = some y ∧ y.tdata1.extractLsb' 28 4 = 2#4 := by
  unfold nextIsMcontrol
  split
  next n found => simp [found, isMcontrol_iff]
  next found => simp [found]

theorem nextDmode_iff (s : State) : nextDmode s = true ↔
    ∃ y, s.triggers[s.tselect.toNat + 1]? = some y ∧ y.tdata1.getLsbD 27 = true := by
  unfold nextDmode
  split
  next n found => simp [found, Trigger.dmode]
  next found => simp [found]

theorem prevBlocks_iff (s : State) : prevBlocks s = true ↔
    0 < s.tselect.toNat ∧ ∃ y, s.triggers[s.tselect.toNat - 1]? = some y ∧ y.tdata1.extractLsb' 28 4 = 2#4 ∧
      y.tdata1.getLsbD 27 = false ∧ y.tdata1.getLsbD 11 = true := by
  unfold prevBlocks
  rw [Bool.and_eq_true, bne_iff_ne, Nat.pos_iff_ne_zero]
  refine and_congr_right fun _ => ?_
  split
  next p found =>
    rw [found, Bool.and_eq_true, Bool.not_eq_true', Trigger.chain, Bool.and_eq_true, isMcontrol_iff]
    exact ⟨fun ⟨free, kind, chained⟩ => ⟨p, rfl, kind, free, chained⟩,
      fun ⟨_, same, kind, free, chained⟩ => by cases same; exact ⟨free, kind, chained⟩⟩
  next found => simp [found]

theorem storedChain_iff (s : State) (dmode : Bool) (v : Word) : storedChain s dmode v = true ↔ v.getLsbD 11 = true ∧
    ¬(dmode = false ∧ ∃ y, s.triggers[s.tselect.toNat + 1]? = some y ∧ y.tdata1.getLsbD 27 = true) := by
  rw [← nextDmode_iff, storedChain, Bool.and_eq_true]
  cases dmode <;> simp

theorem mcontrolReserved_iff (s : State) (dmode : Bool) (v : Word) : mcontrolReserved s dmode v = true ↔
    v.extractLsb' 7 4 ≠ 0#4 ∨ 1 < (v.extractLsb' 12 4).toNat ∨ (v.getLsbD 12 = true ∧ dmode = false) ∨
      (storedChain s dmode v = true ∧
        ¬∃ y, s.triggers[s.tselect.toNat + 1]? = some y ∧ y.tdata1.extractLsb' 28 4 = 2#4) := by
  rw [← nextIsMcontrol_iff]
  simp only [mcontrolReserved, Bool.or_eq_true, Bool.and_eq_true, Bool.not_eq_true', bne_iff_ne, decide_eq_true_eq, or_assoc,
    Bool.not_eq_true]

theorem bitAt_eq_shift (b : Bool) (k : Nat) : bitAt b k = if b then 1#32 <<< k else 0 := by
  cases b
  · rfl
  · exact BitVec.eq_of_toNat_eq (by simp [bitAt, Nat.shiftLeft_eq])

/-! ## The selected trigger (R570, R571, R574) -/

theorem writeTselect_eq (s : State) (v : Word) :
    writeTselect s v = { s with tselect := if v.toNat < s.triggers.length then v else s.tselect } := by
  unfold writeTselect
  split <;> rfl

section
variable {s : State} {x : Trigger} (sel : selected s = some x)
include sel

theorem csrRead_tdata1 : csrRead s 0x7A1 = x.tdata1 := by
  change readTdata1 s = _
  rw [readTdata1, sel]

theorem csrRead_tdata2 : csrRead s 0x7A2 = x.tdata2 := by
  change readTdata2 s = _
  rw [readTdata2, sel]

/-- Outside Debug Mode a trigger with dmode 1 keeps what it has. -/
theorem writeTdata1_protected (owned : (x.dmode && !s.debugMode) = true) (v : Word) : writeTdata1 s v = .next s := by
  rw [writeTdata1, sel]
  exact if_pos owned

theorem writeTdata2_protected (owned : (x.dmode && !s.debugMode) = true) (v : Word) : writeTdata2 s v = s := by
  rw [writeTdata2, sel]
  exact if_pos owned

theorem writeTdata2_free (free : (x.dmode && !s.debugMode) = false) (v : Word) :
    writeTdata2 s v = putSelected s { x with tdata2 := v } := by
  rw [writeTdata2, sel]
  exact if_neg (ne_true_of_eq_false free)

theorem writeTdata1_mcontrol (free : (x.dmode && !s.debugMode) = false) (kind : x.isMcontrol = true) (v : Word) :
    writeTdata1 s v = writeMcontrol s x v := by
  rw [writeTdata1, sel]
  exact (if_neg (ne_true_of_eq_false free)).trans (if_pos kind)

theorem writeTdata1_icount (free : (x.dmode && !s.debugMode) = false) (kind : x.isIcount = true) (v : Word) :
    writeTdata1 s v = writeIcount s x v := by
  have other : x.isMcontrol = false := Bool.eq_false_iff.2 fun both => by
    rw [isIcount_mcontrol both] at kind
    cases kind
  rw [writeTdata1, sel]
  exact (if_neg (ne_true_of_eq_false free)).trans ((if_neg (ne_true_of_eq_false other)).trans (if_pos kind))

end

theorem newDmode_free {s : State} {x : Trigger} (free : (x.dmode && !s.debugMode) = false) (v : Word) :
    newDmode s x v = (s.debugMode && v.getLsbD 27) := by
  unfold newDmode
  revert free
  cases s.debugMode <;> simp

/-- The condition of R571, on the bits: the trigger is not protected, or the hart is in Debug Mode. -/
theorem unprotected {s : State} {x : Trigger} (free : x.tdata1.getLsbD 27 = false ∨ s.debugMode = true) :
    (x.dmode && !s.debugMode) = false := by
  rw [Trigger.dmode]
  rcases free with unowned | halted
  · rw [unowned, Bool.false_and]
  · rw [halted, Bool.not_true, Bool.and_false]

theorem writeMcontrol_blocked {s : State} {x : Trigger} {v : Word} (blocked : (newDmode s x v && prevBlocks s) = true) :
    writeMcontrol s x v = .next s := if_pos blocked

theorem writeMcontrol_reserved {s : State} {x : Trigger} {v : Word} (passes : ¬(newDmode s x v && prevBlocks s) = true)
    (reserved : mcontrolReserved s (newDmode s x v) v = true) : writeMcontrol s x v = .refused .triggerReserved :=
  (if_neg passes).trans (if_pos reserved)

theorem writeMcontrol_stores {s : State} {x : Trigger} {v : Word} (passes : ¬(newDmode s x v && prevBlocks s) = true)
    (legal : ¬mcontrolReserved s (newDmode s x v) v = true) : writeMcontrol s x v = .next (putSelected s { x with
      tdata1 := mcontrolOf (storedChain s (newDmode s x v) v) (newDmode s x v) v, fired := false }) :=
  (if_neg passes).trans (if_neg legal)

theorem writeIcount_reserved {s : State} {x : Trigger} {v : Word}
    (reserved : 1 < (v.extractLsb' 0 6).toNat ∨ ((v.extractLsb' 0 6).toNat = 1 ∧ newDmode s x v = false)) :
    writeIcount s x v = .refused .triggerReserved := if_pos reserved

theorem writeIcount_stores {s : State} {x : Trigger} {v : Word}
    (legal : (v.extractLsb' 0 6).toNat = 0 ∨ ((v.extractLsb' 0 6).toNat = 1 ∧ newDmode s x v = true)) :
    writeIcount s x v = .next (putSelected s { x with
      tdata1 := 0x30000000 ||| bitAt (newDmode s x v) 27 ||| (v &&& 0x01FFFE01), fired := false }) := by
  refine if_neg ?_
  rcases legal with zero | ⟨one, debug⟩
  · omega
  · rw [one, debug]
    decide

/-! ## The statement -/

section
variable {op : CsrOp} {rd z : BitVec 5} {s : State} {x : Trigger}

theorem tdata1_stored {w : Word} (sel : selected s = some x) (writable : Writable op z 0x7A1 s)
    (rule : writeTdata1 s (op.presents s z 0x7A1) = .next (putSelected s { x with tdata1 := w, fired := false })) :
    ∃ t, exec (op.instr rd z 0x7A1) s = .next t ∧
      t.triggers = s.triggers.set s.tselect.toNat { x with tdata1 := w, fired := false } ∧
      WritesReg s { t with triggers := s.triggers } rd x.tdata1 4 := by
  refine ⟨_, writable.next rfl rule, rfl, ?_⟩
  rw [csrRead_tdata1 sel]
  exact csrDone_writesReg s rd _

theorem tdata1_ignored (sel : selected s = some x) (writable : Writable op z 0x7A1 s)
    (rule : writeTdata1 s (op.presents s z 0x7A1) = .next s) :
    ∃ t, exec (op.instr rd z 0x7A1) s = .next t ∧ WritesReg s t rd x.tdata1 4 := by
  rw [← csrRead_tdata1 sel]
  exact writable.ignored rfl rule

theorem tdata2_stored (sel : selected s = some x) (writable : Writable op z 0x7A2 s)
    (free : (x.dmode && !s.debugMode) = false) :
    ∃ t, exec (op.instr rd z 0x7A2) s = .next t ∧
      t.triggers = s.triggers.set s.tselect.toNat { x with tdata2 := op.presents s z 0x7A2 } ∧
      WritesReg s { t with triggers := s.triggers } rd x.tdata2 4 := by
  have rule : csrWrite s 0x7A2 (op.presents s z 0x7A2) = .next (putSelected s { x with tdata2 := op.presents s z 0x7A2 }) :=
    congrArg Host.Outcome.next (writeTdata2_free sel free _)
  refine ⟨_, writable.next rfl rule, rfl, ?_⟩
  rw [csrRead_tdata2 sel]
  exact csrDone_writesReg s rd _

theorem tdata2_ignored (sel : selected s = some x) (writable : Writable op z 0x7A2 s)
    (owned : (x.dmode && !s.debugMode) = true) :
    ∃ t, exec (op.instr rd z 0x7A2) s = .next t ∧ WritesReg s t rd x.tdata2 4 := by
  rw [← csrRead_tdata2 sel]
  exact writable.ignored rfl (congrArg Host.Outcome.next (writeTdata2_protected sel owned _))

theorem tselect_stored (writable : Writable op z 0x7A0 s) :
    ∃ t, exec (op.instr rd z 0x7A0) s = .next t ∧
      t.tselect = (if (op.presents s z 0x7A0).toNat < s.triggers.length then op.presents s z 0x7A0 else s.tselect) ∧
      WritesReg s { t with tselect := s.tselect } rd s.tselect 4 :=
  have rule : csrWrite s 0x7A0 (op.presents s z 0x7A0) = .next { s with
      tselect := if (op.presents s z 0x7A0).toNat < s.triggers.length then op.presents s z 0x7A0 else s.tselect } :=
    congrArg Host.Outcome.next (writeTselect_eq s _)
  ⟨_, writable.next rfl rule, rfl, csrDone_writesReg s rd _⟩

end

/-- Settles O54: the type and the dmode of the selected trigger decide, and for chain those of its neighbours. -/
theorem triggerRegisterWrites : Obligations.TriggerRegisterWrites := by
  refine ⟨fun op rd z s writes dbg tdu => ?first, fun op rd z s x writes dbg tdu sel free => ?tdata1⟩ <;>
    have present : (s.cfg.dbgEn && s.cfg.tduEn) = true := by rw [dbg, tdu]; rfl
  case first =>
    refine ⟨tselect_stored ⟨present, writes, rfl, rfl⟩, fun x sel => ⟨fun free => ?_, fun dmode running => ?_⟩⟩
    · exact tdata2_stored sel ⟨present, writes, rfl, rfl⟩ (unprotected free)
    · have owned : (x.dmode && !s.debugMode) = true := by rw [Trigger.dmode, dmode, running]; rfl
      exact ⟨tdata1_ignored sel ⟨present, writes, rfl, rfl⟩ (writeTdata1_protected sel owned _),
        tdata2_ignored sel ⟨present, writes, rfl, rfl⟩ owned⟩
  case tdata1 =>
    have writable : Writable op z 0x7A1 s := ⟨present, writes, rfl, rfl⟩
    intro v bit dmode isMcontrol next blocked zeroed stores refused
    have owner : newDmode s x v = dmode := newDmode_free (unprotected free) v
    refine ⟨fun kind => ?mcontrol, fun kind => ?icount⟩
    case mcontrol =>
      have rule := writeTdata1_mcontrol sel (unprotected free) ((isMcontrol_iff x).2 kind) v
      have blocks : (newDmode s x v && prevBlocks s) = true ↔ blocked := by
        rw [owner, Bool.and_eq_true, prevBlocks_iff]
      refine ⟨fun stays => ?_, fun passes c chain => ?_⟩
      · exact tdata1_ignored sel writable (rule.trans (writeMcontrol_blocked (blocks.2 stays)))
      have stored : storedChain s (newDmode s x v) v = c := by
        rw [owner]
        exact Bool.eq_iff_iff.2 ((storedChain_iff s dmode v).trans chain.symm)
      have reservedIff := mcontrolReserved_iff s (newDmode s x v) v
      rw [stored] at reservedIff
      have notBlocked := mt blocks.1 passes
      refine ⟨fun reserved => ?_, fun legal => ?_⟩
      · rw [← owner] at reserved
        exact writable.refused (rule.trans (writeMcontrol_reserved notBlocked (reservedIff.2 reserved)))
      · rw [← owner] at legal
        have written := rule.trans (writeMcontrol_stores notBlocked (mt reservedIff.1 legal))
        rw [stored, mcontrolOf, owner, bitAt_eq_shift, bitAt_eq_shift] at written
        exact tdata1_stored sel writable written
    case icount =>
      have rule := writeTdata1_icount sel (unprotected free) ((isIcount_iff x).2 kind) v
      refine ⟨fun reserved => ?_, fun legal => ?_⟩
      · rw [← owner] at reserved
        exact writable.refused (rule.trans (writeIcount_reserved reserved))
      · rw [← owner] at legal
        have written := rule.trans (writeIcount_stores legal)
        rw [owner, bitAt_eq_shift] at written
        exact tdata1_stored sel writable written

end Sys2Proof.Machine
end
